-- ==== Sys2Proof/Word.lean ====
section
/-! DEFINITION. The plain words of the LT416: bytes and message fields, the identifiers of section 5.4 of
spec/00_scope.md, and the small enumerations that a command's operands use. -/

namespace Sys2Proof

/-- One character's 8 data bits. -/
abbrev Byte := BitVec 8

/-- A 24-bit headset ID as sent; 0 and 16,777,215 are invalid (R3, R161). -/
abbrev HeadsetId := BitVec 24

/-- A set of the channels 0 to 15; bit c stands for channel c (R161). -/
abbrev ListenSet := BitVec 16

/-- A card link, CL0 to CL3. -/
abbrev LinkId := Fin 4

/-- An antenna ID, 0 to 63. -/
abbrev AntennaId := Fin 64

/-- A roster index, 0 to 191. -/
abbrev RosterIx := Fin 192

/-- A group position of a frame plan, 0 to 15. -/
abbrev GroupIx := Fin 16

/-- A seat place of a group, 0 or 1. -/
abbrev SeatNo := Fin 2

/-- A handoff table entry's number, 0 to 15. -/
abbrev EntryNo := Fin 16

/-- The three parameters that carry the airtime check of R176. -/
inductive AirtimeParam where
  | beacon
  | guardTime
  | reserve
  deriving DecidableEq, Repr

/-- The two ways a character can be bad (R144). -/
inductive CharError where
  /-- The stop bit is high and the ones among data and parity bits are odd. -/
  | parity
  /-- The stop bit is low; parity is not judged. -/
  | framing
  deriving DecidableEq, Repr

end Sys2Proof
end

