-- ==== Sys2Proof/Syntax.lean ====
section
/-! DEFINITION. The commands the LT416 takes, one constructor for each row of spec/opcode_table.json. A request row
carries the link that sends it, its tag and its fields as R161 codes them; a line or timer row carries the link,
record or entry it happens at. -/

namespace Sys2Proof

/-- The commands of the LT416, in the opcode table's order. -/
inductive Instr where
  /-- ANT_UP (R25): link, tag, antenna. -/
  | antUp (l : LinkId) (tag : Byte) (antenna : Byte)
  /-- ANT_DOWN (R26): link, tag, antenna. -/
  | antDown (l : LinkId) (tag : Byte) (antenna : Byte)
  /-- ANT_DRAIN (R33): link, tag, antenna. -/
  | antDrain (l : LinkId) (tag : Byte) (antenna : Byte)
  /-- ANT_REOPEN (R37): link, tag, antenna. -/
  | antReopen (l : LinkId) (tag : Byte) (antenna : Byte)
  /-- CARD_RESTART (R38): link, tag. -/
  | cardRestart (l : LinkId) (tag : Byte)
  /-- ATTACH (R8): link, tag, headset ID, antenna, class code, listen set, level. -/
  | attach (l : LinkId) (tag : Byte) (headset : HeadsetId) (antenna cls : Byte) (listen : ListenSet) (level : Byte)
  /-- DETACH (R12): link, tag, headset ID. -/
  | detach (l : LinkId) (tag : Byte) (headset : HeadsetId)
  /-- LEVELS (R79): link, tag, antenna and the (headset, level) pairs; the count field is the number of pairs. -/
  | levels (l : LinkId) (tag : Byte) (antenna : Byte) (pairs : List (HeadsetId × Byte))
  /-- LISTEN (R18): link, tag, headset ID, listen set. -/
  | listen (l : LinkId) (tag : Byte) (headset : HeadsetId) (listen : ListenSet)
  /-- KEY_ON (R67): link, tag, headset ID; the key field is 0x01. -/
  | keyOn (l : LinkId) (tag : Byte) (headset : HeadsetId)
  /-- KEY_OFF (R69): link, tag, headset ID; the key field is 0x00. -/
  | keyOff (l : LinkId) (tag : Byte) (headset : HeadsetId)
  /-- READY (R118): link, tag, headset ID. -/
  | ready (l : LinkId) (tag : Byte) (headset : HeadsetId)
  /-- DECLINE (R119): link, tag, headset ID. -/
  | decline (l : LinkId) (tag : Byte) (headset : HeadsetId)
  /-- ARRIVED (R124): link, tag, headset ID, antenna. -/
  | arrived (l : LinkId) (tag : Byte) (headset : HeadsetId) (antenna : Byte)
  /-- STAY (R125): link, tag, headset ID. -/
  | stay (l : LinkId) (tag : Byte) (headset : HeadsetId)
  /-- QUERY_HEADSET (R19): link, tag, headset ID. -/
  | queryHeadset (l : LinkId) (tag : Byte) (headset : HeadsetId)
  /-- QUERY_ANTENNA (R39): link, tag, antenna. -/
  | queryAntenna (l : LinkId) (tag : Byte) (antenna : Byte)
  /-- QUERY_CLOCK (R142): link, tag. -/
  | queryClock (l : LinkId) (tag : Byte)
  /-- SET (R175): link, tag, parameter number, value. -/
  | set (l : LinkId) (tag : Byte) (param : Byte) (value : BitVec 16)
  /-- SET_AIRTIME_PARAMETER (R176): link, tag, which of BEACON, GUARD and RESERVE, value. -/
  | setAirtimeParameter (l : LinkId) (tag : Byte) (param : AirtimeParam) (value : BitVec 16)
  /-- SET_HANDOFF_DEPTH (R177): link, tag, value. -/
  | setHandoffDepth (l : LinkId) (tag : Byte) (value : BitVec 16)
  /-- GET (R174): link, tag, parameter number. -/
  | get (l : LinkId) (tag : Byte) (param : Byte)
  /-- TRIM (R137): link, tag, the 16-bit two's complement trim value. -/
  | trim (l : LinkId) (tag : Byte) (value : BitVec 16)
  /-- CLEAR_FLAGS (R155): link, tag, mask. -/
  | clearFlags (l : LinkId) (tag : Byte) (mask : Byte)
  /-- UNKNOWN_KIND (R160): link, the kind byte, tag. -/
  | unknownKind (l : LinkId) (kind : Byte) (tag : Byte)
  /-- REQUEST_RECEIVED (R149): the check byte that ends a message on the link. -/
  | requestReceived (l : LinkId) (check : Byte)
  /-- MALFORMED (R146): a length byte on the link. -/
  | malformed (l : LinkId) (length : Byte)
  /-- BAD_CHARACTER (R144): a bad character on the link. -/
  | badCharacter (l : LinkId) (error : CharError)
  /-- IDLE_TIMER_EXPIRY (R147): 88 bit times of idle line. -/
  | idleTimerExpiry (l : LinkId)
  /-- LINE_BREAK (R156): RXD held low for 20 bit times. -/
  | lineBreak (l : LinkId)
  /-- REPLY_TRANSMISSION (R153): the idle transmitter begins the reply. -/
  | replyTransmission (l : LinkId)
  /-- PREPARE_NOTICE (R115): the transmitter begins a PREPARE. -/
  | prepareNotice (l : LinkId)
  /-- MOVE_NOTICE (R122): the transmitter begins a MOVE. -/
  | moveNotice (l : LinkId)
  /-- FRAME_PLAN_NOTICE (R61): the transmitter begins a FRAME PLAN. -/
  | framePlanNotice (l : LinkId)
  /-- MESSAGE_SENT (R152): the stop bit of a message's last character has been sent. -/
  | messageSent (l : LinkId)
  /-- FRAME_BOUNDARY (R135). -/
  | frameBoundary
  /-- SERVE_LOST_EXPIRY (R14): the record whose timer expires. -/
  | serveLostExpiry (i : RosterIx)
  /-- RETAIN_EXPIRY (R15): the record whose timer expires. -/
  | retainExpiry (i : RosterIx)
  /-- CANDIDATE_AGE_EXPIRY (R93): the record, and the antenna of the candidate entry whose timer expires. -/
  | candidateAgeExpiry (i : RosterIx) (a : AntennaId)
  /-- PREPARE_TIMER_EXPIRY (R116): the handoff entry whose timer expires. -/
  | prepareTimerExpiry (e : EntryNo)
  /-- MOVE_TIMER_EXPIRY (R123): the handoff entry whose timer expires. -/
  | moveTimerExpiry (e : EntryNo)
  /-- RESET (R180): power-on reset or RESET_N low. -/
  | reset
  /-- RESET_RELEASE (R180): the levels of the CFGSEL1:0 and RATESEL1:0 straps at the releasing edge. -/
  | resetRelease (cfgsel ratesel : BitVec 2)
  /-- GOOD_CHARACTER (R145): a good character's 8 data bits. -/
  | goodCharacter (l : LinkId) (char : Byte)
  /-- FSYNC_PULSE_END (R139): 16 REFCLK cycles after the boundary. -/
  | fsyncPulseEnd
  deriving DecidableEq, Repr

end Sys2Proof
end

