-- ==== Sys2Proof/Decode.lean ====
section
/-! DEFINITION. Reading a command from a word. The opcode table gives no row any bits (each row is a request, a line
event or a timer event, spelled by its operands), so no word spells a command. The bytes of a request message are read
by Sys2Proof.Machine.Request.ofBody (R160, R161), in Machine/Operands.lean. -/

namespace Sys2Proof

/-- The command that a word of the opcode table spells: none, since no row of the table has bits. -/
def decodeTableWord (_nbits _w : Nat) : Option Instr := none

end Sys2Proof
end

