-- ==== Sys2Proof/Config.lean ====
section
/-! DEFINITION. What the part fixes (its capacities, the nominal frame) and the one value that the manual leaves
open: which of several expiries due at one boundary is taken first. -/

namespace Sys2Proof.Config

/-- The handoff table holds 16 entries (R106). -/
def tableSize : Nat := 16

/-- A candidate list holds at most three entries (R87). -/
def maxCandidates : Nat := 3

/-- A key wait queue holds at most four headsets (R70). -/
def maxQueue : Nat := 4

/-- Each link has two request slots (R149). -/
def requestSlots : Nat := 2

/-- A LEVELS request carries at most 24 pairs (R78). -/
def maxPairs : Nat := 24

/-- The frame in microseconds, from which RESERVE is taken to give the limit (R44). -/
def frameMicros : Nat := 10000

/-- The nominal frame length in REFCLK cycles (R135). -/
def nominalFrame : Int := 160000

/-- 2^23, the modulus of the trim accumulator (R135). -/
def trimModulus : Int := 8388608

/-- FREE VALUE. Where several timers expire at one boundary the manual lets them be taken in any order (R140, R141),
and the model says nothing of the order: the n-th such choice takes the due expiry that this constant names, modulo
how many are due (log entry 3). It has no body: a claim holds whatever it is. -/
opaque expiryChoice : Nat → Nat

end Sys2Proof.Config
end

