-- ==== Sys2Proof/Machine/State.lean ====
section
/-! DEFINITION. The state of the LT416: the fourteen parameters, the roster, the antennas with their frame plans, the
handoff table, the timebase, the four card links, the reset and strap state, and the queue of waiting commands. -/

namespace Sys2Proof.Machine

/-- A running frame-count timer (R140); a stopped timer is the absence of one. -/
structure Timer where
  /-- Frame boundaries taken since the start or restart. -/
  count : Nat
  /-- MODEL'S OWN (log entry 3). The last boundary is one at which the timer expires, and the timer has still to take it:
  its count rises and its expiry is taken as one event. -/
  due : Bool
  deriving DecidableEq, Repr

/-- The burst profiles of section 3.2. -/
inductive Profile where
  | p1 | p2 | p3 | p4 | p5
  deriving DecidableEq, Repr

/-- The states of a record that is not FREE (R4); a FREE record is the absence of one. -/
inductive RecordState where
  | settled | handing | adrift
  deriving DecidableEq, Repr

/-- The key states (R65). -/
inductive KeyState where
  | off | on | waiting | pending
  deriving DecidableEq, Repr

/-- Where a headset is served (R1). -/
structure Serving where
  antenna : AntennaId
  group : GroupIx
  seat : SeatNo
  deriving DecidableEq, Repr

/-- A candidate entry (R87). -/
structure Candidate where
  antenna : AntennaId
  /-- The filtered level, 0 to 4080. -/
  f16 : Nat
  dwell : Nat
  /-- Stopped while the entry is the target candidate (R95). -/
  age : Option Timer
  blocked : Bool
  deriving DecidableEq, Repr

/-- A roster record that is not FREE (R1). -/
structure Record where
  id : HeadsetId
  state : RecordState
  /-- The class code as stored, 1 to 5, or absent (R2). -/
  classCode : Option Profile
  profile : Profile
  listen : ListenSet
  key : KeyState
  serving : Option Serving
  /-- The filtered serving level F16S, 0 to 4080. -/
  f16s : Nat
  weak : Bool
  serveLost : Option Timer
  candidates : List Candidate
  retain : Option Timer
  handoff : Option EntryNo
  deriving DecidableEq, Repr

/-- The kinds of seat (R41). -/
inductive SeatKind where
  | serving | reserved
  deriving DecidableEq, Repr

/-- One seat of a frame plan (R41); its burst in microseconds is a value of the burst profile table. -/
structure Seat where
  headset : RosterIx
  kind : SeatKind
  burst : Nat
  deriving DecidableEq, Repr

/-- One group position: empty when both seats are absent (R41). -/
structure Group where
  seat0 : Option Seat
  seat1 : Option Seat
  deriving DecidableEq, Repr

/-- The antenna states (R23). -/
inductive AntennaState where
  | down | active | draining | closed
  deriving DecidableEq, Repr

/-- An antenna record with the frame plan that hangs on it (R22). -/
structure Antenna where
  state : AntennaState
  owner : Option LinkId
  plan : Vector Group 16
  /-- The airtime used in microseconds, 0 while DOWN. -/
  airtime : Nat
  /-- The carriage count of each channel. -/
  carriage : Vector Nat 16
  /-- The key wait queue, head first. -/
  queue : List RosterIx
  planDue : Bool
  deriving DecidableEq, Repr

/-- The phases of a handoff entry (R106). -/
inductive Phase where
  | queued | preparing | moving
  deriving DecidableEq, Repr

/-- A handoff table entry in use (R106); the table's list keeps creation order (R107). -/
structure Entry where
  num : EntryNo
  headset : RosterIx
  source : AntennaId
  target : AntennaId
  phase : Phase
  reserved : Option (GroupIx × SeatNo)
  seq : BitVec 32
  switchFrame : Option (BitVec 16)
  prepTimer : Option Timer
  moveTimer : Option Timer
  prepareDue : Bool
  moveDue : Bool
  deriving DecidableEq, Repr

/-- What a request asks, read from its body (R160, R161). -/
inductive Ask where
  | antUp (antenna : Byte)
  | antDown (antenna : Byte)
  | antDrain (antenna : Byte)
  | antReopen (antenna : Byte)
  | cardRestart
  | attach (headset : HeadsetId) (antenna cls : Byte) (listen : ListenSet) (level : Byte)
  | detach (headset : HeadsetId)
  | levels (antenna : Byte) (pairs : List (HeadsetId × Byte))
  | listen (headset : HeadsetId) (listen : ListenSet)
  | key (headset : HeadsetId) (key : Byte)
  | ready (headset : HeadsetId)
  | decline (headset : HeadsetId)
  | arrived (headset : HeadsetId) (antenna : Byte)
  | stay (headset : HeadsetId)
  | queryHeadset (headset : HeadsetId)
  | queryAntenna (antenna : Byte)
  | queryClock
  | set (param : Byte) (value : BitVec 16)
  | get (param : Byte)
  | trim (value : BitVec 16)
  | clearFlags (mask : Byte)
  /-- A known kind whose body is not the length it requires (R160, stage 2). -/
  | badLength
  /-- A kind byte that names no request kind (R160, stage 1). -/
  | unknown
  deriving DecidableEq, Repr

/-- A request as a slot holds it (R149): its kind byte and tag, and what it asks. -/
structure Request where
  kind : Byte
  tag : Byte
  ask : Ask
  deriving DecidableEq, Repr

/-- The receive assembler with its message in progress (R145): the length N, the body bytes so far, the running sum. -/
inductive Assembler where
  | hunt
  | length
  | body (n : Nat) (bytes : List Byte) (sum : Byte)
  | check (bytes : List Byte) (sum : Byte)
  deriving DecidableEq, Repr

/-- The message a transmitter is sending (R152): whether it is the reply of the reply slot, and its characters. -/
structure Message where
  isReply : Bool
  chars : List Byte
  deriving DecidableEq, Repr

/-- One card link (section 9 of spec/09_card_links.md). -/
structure Link where
  asm : Assembler
  /-- The request slots, oldest request first. -/
  slots : List Request
  /-- The reply slot: the body of the reply it holds. -/
  reply : Option (List Byte)
  /-- The transmitter: idle, or sending one message. -/
  tx : Option Message
  /-- The seven link flags at the bit positions of R172. -/
  flags : BitVec 7
  /-- The receiver accepts no start bit until RXD has been high for one bit time (R144, R156, R158). -/
  awaitHigh : Bool
  deriving DecidableEq, Repr

/-- The parameter store (R173). -/
structure Params where
  filterWeight : Nat
  margin : Nat
  dwell : Nat
  lossLevel : Nat
  lossHyst : Nat
  candAge : Nat
  serveLost : Nat
  retain : Nat
  prepTime : Nat
  moveTime : Nat
  handoffDepth : Nat
  beacon : Nat
  guardTime : Nat
  reserve : Nat
  deriving DecidableEq, Repr

/-- The whole state of the part, with the queue of waiting commands. -/
structure State where
  /-- The commands that wait, first in, first out. -/
  pending : List Instr
  /-- Power-on reset or RESET_N low is held (R180). -/
  resetHeld : Bool
  /-- The link that CFGSEL1:0 selected at the last release (R178); CL0 while reset is held (log entry 19). -/
  settingsLink : LinkId
  /-- The RATESEL1:0 code taken at the last release (R179); 00 while reset is held (log entry 19). -/
  rateCode : BitVec 2
  params : Params
  roster : Vector (Option Record) 192
  antennas : Vector Antenna 64
  /-- The handoff table's entries in use, in creation order (R107). -/
  handoffs : List Entry
  seqCounter : BitVec 32
  /-- The trim value T (R136). -/
  trim : Int
  /-- The accumulator A (R135). -/
  acc : Int
  frameNumber : BitVec 16
  /-- The length of the frame in progress, in REFCLK cycles (R135). -/
  frameLength : Int
  /-- The FSYNC pin (R139). -/
  fsync : Bool
  links : Vector Link 4
  /-- MODEL'S OWN (log entry 3). How many free choices of expiry order have been made. -/
  choices : Nat
  deriving DecidableEq, Repr

/-- Why a command stops with a fault. No command of the LT416 faults: the manual gives every request a reply and every
event an effect. -/
inductive Fault where
  deriving DecidableEq, Repr

/-- Why a command has no meaning. -/
inductive Refusal where
  /-- Raised by an arm of exec for a command that has no meaning yet. Safe: the model stops. -/
  | notModelled (mnemonic : String)
  deriving DecidableEq, Repr

/-- A group position with no seat (R41). -/
def Group.empty : Group := { seat0 := none, seat1 := none }

/-- A DOWN antenna: no owner, no groups, no carriage, no queue, nothing due, airtime 0 (R22, R40). -/
def Antenna.down : Antenna :=
  { state := .down, owner := none, plan := Vector.replicate 16 Group.empty, airtime := 0,
    carriage := Vector.replicate 16 0, queue := [], planDue := false }

/-- A card link after reset (R158). -/
def Link.afterReset : Link :=
  { asm := .hunt, slots := [], reply := none, tx := none, flags := 0, awaitHigh := true }

/-- The defaults of the table of R173. -/
def Params.default : Params :=
  { filterWeight := 4, margin := 6, dwell := 3, lossLevel := 40, lossHyst := 8, candAge := 50, serveLost := 30,
    retain := 6000, prepTime := 5, moveTime := 20, handoffDepth := 2, beacon := 400, guardTime := 40, reserve := 500 }

/-- The part right after reset is released (R21, R40, R114, R143, R158, R173, R180), with both strap pairs at 00
(DESIGN CHOICE, log entry 4). -/
def State.reset : State :=
  { pending := [], resetHeld := false, settingsLink := 0, rateCode := 0, params := Params.default,
    roster := Vector.replicate 192 none, antennas := Vector.replicate 64 Antenna.down, handoffs := [],
    seqCounter := 0, trim := 0, acc := 0, frameNumber := 0, frameLength := 160000, fsync := false,
    links := Vector.replicate 4 Link.afterReset, choices := 0 }

end Sys2Proof.Machine
end

