-- ==== Sys2Proof/Machine/Ops.lean ====
section
/-! DEFINITION. The named operations over the state: reading and writing a record, an antenna, a link and a handoff
entry; timers; ownership; the walks in roster and antenna order; bytes. -/

namespace Sys2Proof.Machine

/-! ## Orders (section 5.5 of spec/00_scope.md) -/

/-- The numbers below n, ascending. -/
def ascending (n : Nat) : List (Fin n) := (List.range n).filterMap fun k => if h : k < n then some ⟨k, h⟩ else none

/-- Roster order (R20). -/
def rosterOrder : List RosterIx := ascending 192

/-- Antenna order. -/
def antennaOrder : List AntennaId := ascending 64

/-- Group order. -/
def groupOrder : List GroupIx := ascending 16

/-- CL0 to CL3. -/
def linkOrder : List LinkId := ascending 4

/-- The handoff entry numbers in ascending order. -/
def entryOrder : List EntryNo := ascending 16

/-! ## The roster -/

/-- The record at a roster index, absent when FREE (R1). -/
def State.rec? (s : State) (i : RosterIx) : Option Record := s.roster.get i

/-- Write or free the record at a roster index. -/
def State.setRec (s : State) (i : RosterIx) (r : Option Record) : State :=
  { s with roster := s.roster.set i.val r i.isLt }

/-- Change the record at a roster index, if it is not FREE. -/
def State.modRec (s : State) (i : RosterIx) (f : Record → Record) : State :=
  match s.rec? i with
  | none => s
  | some r => s.setRec i (some (f r))

/-- The record that carries a headset ID, among the records that are not FREE (R3). -/
def State.findHeadset (s : State) (h : HeadsetId) : Option RosterIx :=
  rosterOrder.find? fun i => match s.rec? i with
    | none => false
    | some r => r.id == h

/-! ## The antennas -/

/-- The record of an antenna (R22). -/
def State.ant (s : State) (a : AntennaId) : Antenna := s.antennas.get a

/-- Write the record of an antenna. -/
def State.setAnt (s : State) (a : AntennaId) (x : Antenna) : State :=
  { s with antennas := s.antennas.set a.val x a.isLt }

/-- Change the record of an antenna. -/
def State.modAnt (s : State) (a : AntennaId) (f : Antenna → Antenna) : State := s.setAnt a (f (s.ant a))

/-- Mark the antenna's plan due (R60). -/
def State.markDue (s : State) (a : AntennaId) : State := s.modAnt a fun x => { x with planDue := true }

/-- The link that owns an antenna, absent while it is DOWN (R22). -/
def State.owner (s : State) (a : AntennaId) : Option LinkId := (s.ant a).owner

/-! ## The links -/

/-- One card link. -/
def State.link (s : State) (l : LinkId) : Link := s.links.get l

/-- Write one card link. -/
def State.setLink (s : State) (l : LinkId) (x : Link) : State :=
  { s with links := s.links.set l.val x l.isLt }

/-- Change one card link. -/
def State.modLink (s : State) (l : LinkId) (f : Link → Link) : State := s.setLink l (f (s.link l))

/-! ## The handoff table -/

/-- The entry in use with a number (R106). -/
def State.entry? (s : State) (e : EntryNo) : Option Entry := s.handoffs.find? fun x => x.num == e

/-- Change the entry with a number. -/
def State.modEntry (s : State) (e : EntryNo) (f : Entry → Entry) : State :=
  { s with handoffs := s.handoffs.map fun x => if x.num = e then f x else x }

/-- Free an entry: it leaves the table, and with it its due flags and timers, and the record's reference is cleared
(R106). -/
def State.freeEntry (s : State) (e : EntryNo) : State :=
  match s.entry? e with
  | none => s
  | some x =>
    { s with handoffs := s.handoffs.filter fun y => y.num != e }.modRec x.headset fun r => { r with handoff := none }

/-- The handoff entry that a record references. -/
def State.entryOf? (s : State) (r : Record) : Option Entry :=
  match r.handoff with
  | none => none
  | some e => s.entry? e

/-- The record's target candidate: the target of its entry while PREPARING or MOVING (R95). -/
def State.targetOf? (s : State) (r : Record) : Option AntennaId :=
  match s.entryOf? r with
  | none => none
  | some x => if x.phase = .queued then none else some x.target

/-- The depth of a link: its entries in PREPARING or MOVING, by the owner of their target (R109). -/
def State.depth (s : State) (k : LinkId) : Nat :=
  (s.handoffs.filter fun x => x.phase != .queued && s.owner x.target == some k).length

/-- A QUEUED entry that targets an antenna of link k (R108, R111). -/
def State.queuedFor (s : State) (k : LinkId) (x : Entry) : Bool :=
  x.phase == .queued && s.owner x.target == some k

/-- The lowest-numbered free entry (R106). -/
def State.freeNumber? (s : State) : Option EntryNo :=
  entryOrder.find? fun n => !s.handoffs.any fun x => x.num == n

/-! ## Timers -/

/-- A started or restarted timer (R140). -/
def Timer.start : Timer := { count := 0, due := false }

/-- A frame boundary reaches a running timer whose parameter is `limit`: its count rises by 1, unless it would then reach
the parameter. Such a timer is left due: count and expiry are one event, which it has still to take (R140). -/
def Timer.boundary (limit : Nat) (t : Timer) : Timer :=
  if limit ≤ t.count + 1 then { t with due := true } else { count := t.count + 1, due := false }

/-- A due timer whose parameter has been raised meanwhile takes the boundary without expiring: its count rises by 1
(R140). Another timer stays as it is. -/
def Timer.pass (t : Timer) : Timer := if t.due then { count := t.count + 1, due := false } else t

/-- A due timer expires as it takes the boundary, its parameter being read then (R140). -/
def timerExpires (limit : Nat) (t : Option Timer) : Bool :=
  match t with
  | none => false
  | some t => t.due && decide (limit ≤ t.count + 1)

/-- A timer runs and has still to take the last boundary. -/
def timerDue (t : Option Timer) : Bool :=
  match t with
  | none => false
  | some t => t.due

/-! ## Bytes (section 5.7: most significant byte first) -/

/-- The low byte of a number. -/
def byteOf (n : Nat) : Byte := BitVec.ofNat 8 n

/-- The two bytes of a 16-bit field. -/
def bytes16 (x : BitVec 16) : List Byte := [x.extractLsb' 8 8, x.extractLsb' 0 8]

/-- The three bytes of a 24-bit field. -/
def bytes24 (x : BitVec 24) : List Byte := [x.extractLsb' 16 8, x.extractLsb' 8 8, x.extractLsb' 0 8]

/-- The two bytes of a number. -/
def bytesOfNat16 (n : Nat) : List Byte := bytes16 (BitVec.ofNat 16 n)

/-- The 16-bit field of two bytes. -/
def word16 (hi lo : Byte) : BitVec 16 := hi ++ lo

/-- The 24-bit field of three bytes. -/
def word24 (hi mid lo : Byte) : BitVec 24 := (hi ++ mid) ++ lo

end Sys2Proof.Machine
end

