-- ==== Sys2Proof/Machine/Flags.lean ====
section
/-! DEFINITION. The link flags (R155), their bit positions (R172) and what latches and clears them. -/

namespace Sys2Proof.Machine

/-- The seven link flags (R155). -/
inductive LinkFlag where
  | parity | framing | overrun | check | malformed | truncated | break_
  deriving DecidableEq, Repr

/-- The flag alone, at its bit position (R172). -/
def LinkFlag.mask : LinkFlag → BitVec 7
  | .parity => 1#7
  | .framing => 2#7
  | .overrun => 4#7
  | .check => 8#7
  | .malformed => 16#7
  | .truncated => 32#7
  | .break_ => 64#7

/-- Setting a flag that is already set leaves it set (R155). -/
def Link.latch (x : Link) (f : LinkFlag) : Link := { x with flags := x.flags ||| f.mask }

/-- CLEAR FLAGS: each flag whose mask bit is 1 is cleared; bit 7 of the mask names no flag (R155, R172). -/
def Link.clearFlags (x : Link) (mask : Byte) : Link := { x with flags := x.flags &&& ~~~(mask.setWidth 7) }

/-- The flags byte of the reply header; bit 7 is 0 (R172). -/
def Link.flagsByte (x : Link) : Byte := x.flags.setWidth 8

end Sys2Proof.Machine
end

