-- ==== Sys2Proof/Machine/Operands.lean ====
section
/-! DEFINITION. The operand forms: the field checks of R161, the reading of a request from its body (R160, R161) and
the layout of a request's body, the reply status codes, the parameters by number (R173). -/

namespace Sys2Proof.Machine

/-! ## Field checks -/

/-- A headset ID of 0 or 16,777,215 is invalid (R3, R161). -/
def validHeadset (h : HeadsetId) : Bool := h != 0 && h != 0xFFFFFF

/-- An antenna field above 63 names no antenna (R161). -/
def antennaOf? (b : Byte) : Option AntennaId :=
  if h : b.toNat < 64 then some ⟨b.toNat, h⟩ else none

/-! ## The class code (R2) -/

/-- The class code stored and the profile for a class code field, absent when the field is above 15 (R2). -/
def classOf? (b : Byte) : Option (Option Profile × Profile) :=
  match b.toNat with
  | 0 => some (none, .p3)
  | 1 => some (some .p1, .p1)
  | 2 => some (some .p2, .p2)
  | 3 => some (some .p3, .p3)
  | 4 => some (some .p4, .p4)
  | 5 => some (some .p5, .p5)
  | n => if n ≤ 15 then some (some .p3, .p3) else none

/-- The number of a profile or of a stored class code. -/
def Profile.number : Profile → Nat
  | .p1 => 1
  | .p2 => 2
  | .p3 => 3
  | .p4 => 4
  | .p5 => 5

/-- The listen burst in microseconds (section 3.2). -/
def Profile.listenBurst : Profile → Nat
  | .p1 => 200
  | .p2 => 250
  | .p3 => 300
  | .p4 => 350
  | .p5 => 400

/-- The talk burst in microseconds (section 3.2). -/
def Profile.talkBurst : Profile → Nat
  | .p1 => 500
  | .p2 => 600
  | .p3 => 700
  | .p4 => 850
  | .p5 => 1000

/-! ## Codes (section 10.3) -/

def RecordState.code : RecordState → Byte
  | .settled => 1
  | .handing => 2
  | .adrift => 3

def KeyState.code : KeyState → Byte
  | .off => 0
  | .on => 1
  | .waiting => 2
  | .pending => 3

def Phase.code : Phase → Byte
  | .queued => 1
  | .preparing => 2
  | .moving => 3

def AntennaState.code : AntennaState → Byte
  | .down => 0
  | .active => 1
  | .draining => 2
  | .closed => 3

/-- The status codes (section 10.3). -/
inductive Status where
  | ok | okClamped | granted | waiting | deferred | unknownKind | badField | notOwner | notPermitted
  | wrongState | rosterFull | frameFull | alreadySeated | noSuchHeadset | stale | queueFull | overLimit
  deriving DecidableEq, Repr

def Status.code : Status → Byte
  | .ok => 0x00
  | .okClamped => 0x01
  | .granted => 0x02
  | .waiting => 0x03
  | .deferred => 0x04
  | .unknownKind => 0x10
  | .badField => 0x11
  | .notOwner => 0x12
  | .notPermitted => 0x13
  | .wrongState => 0x14
  | .rosterFull => 0x15
  | .frameFull => 0x16
  | .alreadySeated => 0x17
  | .noSuchHeadset => 0x18
  | .stale => 0x19
  | .queueFull => 0x1A
  | .overLimit => 0x1B

/-! ## Parameters by number (R173) -/

/-- The fourteen parameters. -/
inductive Param where
  | filterWeight | margin | dwell | lossLevel | lossHyst | candAge | serveLost | retain | prepTime | moveTime
  | handoffDepth | beacon | guardTime | reserve
  deriving DecidableEq, Repr

/-- The parameter a number names; 0 and 15 to 255 name none (R173). -/
def Param.ofNumber? (b : Byte) : Option Param :=
  match b.toNat with
  | 1 => some .filterWeight
  | 2 => some .margin
  | 3 => some .dwell
  | 4 => some .lossLevel
  | 5 => some .lossHyst
  | 6 => some .candAge
  | 7 => some .serveLost
  | 8 => some .retain
  | 9 => some .prepTime
  | 10 => some .moveTime
  | 11 => some .handoffDepth
  | 12 => some .beacon
  | 13 => some .guardTime
  | 14 => some .reserve
  | _ => none

/-- The lowest value of a parameter's range (R173). -/
def Param.low : Param → Nat
  | .filterWeight => 1
  | .margin => 0
  | .dwell => 1
  | .lossLevel => 0
  | .lossHyst => 0
  | .candAge => 1
  | .serveLost => 1
  | .retain => 1
  | .prepTime => 1
  | .moveTime => 1
  | .handoffDepth => 1
  | .beacon => 100
  | .guardTime => 10
  | .reserve => 0

/-- The highest value of a parameter's range (R173). -/
def Param.high : Param → Nat
  | .filterWeight => 16
  | .margin => 63
  | .dwell => 32
  | .lossLevel => 255
  | .lossHyst => 63
  | .candAge => 255
  | .serveLost => 255
  | .retain => 65535
  | .prepTime => 255
  | .moveTime => 255
  | .handoffDepth => 4
  | .beacon => 1000
  | .guardTime => 200
  | .reserve => 2000

/-- The stored value of a parameter. -/
def Params.read (p : Params) : Param → Nat
  | .filterWeight => p.filterWeight
  | .margin => p.margin
  | .dwell => p.dwell
  | .lossLevel => p.lossLevel
  | .lossHyst => p.lossHyst
  | .candAge => p.candAge
  | .serveLost => p.serveLost
  | .retain => p.retain
  | .prepTime => p.prepTime
  | .moveTime => p.moveTime
  | .handoffDepth => p.handoffDepth
  | .beacon => p.beacon
  | .guardTime => p.guardTime
  | .reserve => p.reserve

/-- The store with one value changed. -/
def Params.write (p : Params) (q : Param) (v : Nat) : Params :=
  match q with
  | .filterWeight => { p with filterWeight := v }
  | .margin => { p with margin := v }
  | .dwell => { p with dwell := v }
  | .lossLevel => { p with lossLevel := v }
  | .lossHyst => { p with lossHyst := v }
  | .candAge => { p with candAge := v }
  | .serveLost => { p with serveLost := v }
  | .retain => { p with retain := v }
  | .prepTime => { p with prepTime := v }
  | .moveTime => { p with moveTime := v }
  | .handoffDepth => { p with handoffDepth := v }
  | .beacon => { p with beacon := v }
  | .guardTime => { p with guardTime := v }
  | .reserve => { p with reserve := v }

/-- A value below the range is taken as its lowest value, one above as its highest (R175, step 3). -/
def Param.clamp (q : Param) (v : Nat) : Nat := max q.low (min q.high v)

/-! ## Requests on the line (R159 to R161) -/

/-- The four-byte (headset, level) pairs of a LEVELS body, read in order. -/
def pairsOf : List Byte → List (HeadsetId × Byte)
  | a :: b :: c :: d :: rest => (word24 a b c, d) :: pairsOf rest
  | _ => []

/-- What the fields of a body ask: the kind's layout from byte 2 on (R161), `badLength` where the body is not the
length that the kind requires and `unknown` where the kind byte names no request kind (R160). -/
def Ask.ofFields (kind : Byte) (fields : List Byte) : Ask :=
  match kind.toNat, fields with
  | 0x01, [a] => .antUp a
  | 0x02, [a] => .antDown a
  | 0x03, [a] => .antDrain a
  | 0x04, [a] => .antReopen a
  | 0x05, [] => .cardRestart
  | 0x08, [h2, h1, h0, a, c, l1, l0, v] => .attach (word24 h2 h1 h0) a c (word16 l1 l0) v
  | 0x09, [h2, h1, h0] => .detach (word24 h2 h1 h0)
  | 0x0A, a :: n :: rest => if rest.length = 4 * n.toNat then .levels a (pairsOf rest) else .badLength
  | 0x0B, [h2, h1, h0, l1, l0] => .listen (word24 h2 h1 h0) (word16 l1 l0)
  | 0x0C, [h2, h1, h0, k] => .key (word24 h2 h1 h0) k
  | 0x10, [h2, h1, h0] => .ready (word24 h2 h1 h0)
  | 0x11, [h2, h1, h0] => .decline (word24 h2 h1 h0)
  | 0x12, [h2, h1, h0, a] => .arrived (word24 h2 h1 h0) a
  | 0x13, [h2, h1, h0] => .stay (word24 h2 h1 h0)
  | 0x18, [h2, h1, h0] => .queryHeadset (word24 h2 h1 h0)
  | 0x19, [a] => .queryAntenna a
  | 0x1A, [] => .queryClock
  | 0x20, [p, v1, v0] => .set p (word16 v1 v0)
  | 0x21, [p] => .get p
  | 0x22, [v1, v0] => .trim (word16 v1 v0)
  | 0x23, [m] => .clearFlags m
  | k, _ =>
    if k ∈ [0x01, 0x02, 0x03, 0x04, 0x05, 0x08, 0x09, 0x0A, 0x0B, 0x0C, 0x10, 0x11, 0x12, 0x13, 0x18, 0x19, 0x1A,
      0x20, 0x21, 0x22, 0x23] then .badLength else .unknown

/-- The request of a body: byte 0 is the kind, byte 1 the tag (R159). A body has at least two bytes (R146). -/
def Request.ofBody : List Byte → Request
  | kind :: tag :: fields => { kind := kind, tag := tag, ask := Ask.ofFields kind fields }
  | [kind] => { kind := kind, tag := 0, ask := .badLength }
  | [] => { kind := 0, tag := 0, ask := .unknown }

/-- The kind code of what a request asks (section 10.1); none for `badLength` and `unknown`. -/
def Ask.kind? : Ask → Option Byte
  | .antUp _ => some 0x01
  | .antDown _ => some 0x02
  | .antDrain _ => some 0x03
  | .antReopen _ => some 0x04
  | .cardRestart => some 0x05
  | .attach .. => some 0x08
  | .detach _ => some 0x09
  | .levels .. => some 0x0A
  | .listen .. => some 0x0B
  | .key .. => some 0x0C
  | .ready _ => some 0x10
  | .decline _ => some 0x11
  | .arrived .. => some 0x12
  | .stay _ => some 0x13
  | .queryHeadset _ => some 0x18
  | .queryAntenna _ => some 0x19
  | .queryClock => some 0x1A
  | .set .. => some 0x20
  | .get _ => some 0x21
  | .trim _ => some 0x22
  | .clearFlags _ => some 0x23
  | .badLength => none
  | .unknown => none

/-- The bytes of the (headset, level) pairs of a LEVELS body. -/
def pairBytes : List (HeadsetId × Byte) → List Byte
  | [] => []
  | p :: rest => bytes24 p.1 ++ [p.2] ++ pairBytes rest

/-- The bytes from byte 2 on of a request body (R161). -/
def Ask.fields : Ask → List Byte
  | .antUp a | .antDown a | .antDrain a | .antReopen a | .queryAntenna a => [a]
  | .cardRestart | .queryClock | .badLength | .unknown => []
  | .attach h a c l v => bytes24 h ++ [a, c] ++ bytes16 l ++ [v]
  | .detach h | .ready h | .decline h | .stay h | .queryHeadset h => bytes24 h
  | .levels a pairs => [a, byteOf pairs.length] ++ pairBytes pairs
  | .listen h l => bytes24 h ++ bytes16 l
  | .key h k => bytes24 h ++ [k]
  | .arrived h a => bytes24 h ++ [a]
  | .set p v => p :: bytes16 v
  | .get p => [p]
  | .trim v => bytes16 v
  | .clearFlags m => [m]

/-- A request of a known kind, as the card lays it out in a body (R159, R161). -/
def Request.make (tag : Byte) (ask : Ask) : Request := { kind := (ask.kind?).getD 0, tag := tag, ask := ask }

/-- The body of a request (R159, R161). -/
def Request.body (r : Request) : List Byte := r.kind :: r.tag :: r.ask.fields

/-! ## Framing (R159, section 9.2) -/

/-- The 8-bit sum of some bytes. -/
def byteSum : List Byte → Byte
  | [] => 0
  | b :: rest => b + byteSum rest

/-- The characters of a message: lead byte, length byte, body, and the check byte that makes the sum of length byte,
body and check byte 0 (R159). -/
def frameMessage (body : List Byte) : List Byte :=
  0xC3 :: byteOf body.length :: (body ++ [-(byteOf body.length + byteSum body)])

end Sys2Proof.Machine
end

