-- ==== Sys2Proof/Machine/Planner.lean ====
section
/-! DEFINITION. The Frame Planner (spec/03_frame_plans_and_airtime.md): airtime, placement, seats, carriage, key
re-placement, the room-made effects, and the key wait queue's grants (spec/04_talk_keys.md). -/

namespace Sys2Proof.Machine

/-! ## Groups and airtime (R41, R43, R44) -/

/-- The seat at a place of a group. -/
def Group.seat (g : Group) (n : SeatNo) : Option Seat := if n = 0 then g.seat0 else g.seat1

/-- The group with one place written. -/
def Group.put (g : Group) (n : SeatNo) (x : Option Seat) : Group :=
  if n = 0 then { g with seat0 := x } else { g with seat1 := x }

/-- The group position holds no seat. -/
def Group.isEmpty (g : Group) : Bool := g.seat0.isNone && g.seat1.isNone

/-- The burst of a place, 0 when it is free. -/
def burstOf (x : Option Seat) : Nat :=
  match x with
  | none => 0
  | some s => s.burst

/-- The group time: the largest burst among the group's seats (R43). -/
def Group.time (g : Group) : Nat := max (burstOf g.seat0) (burstOf g.seat1)

/-- What a group position adds to the airtime used (R43). -/
def Group.cost (guardTime : Nat) (g : Group) : Nat := if g.isEmpty then 0 else g.time + guardTime

/-- The single seat of a group that holds exactly one, with the free place (R45). -/
def Group.lone? (g : Group) : Option (Seat × SeatNo) :=
  match g.seat0, g.seat1 with
  | some s, none => some (s, 1)
  | none, some s => some (s, 0)
  | _, _ => none

/-- The airtime that a plan's groups take. -/
def planCost (guardTime : Nat) (plan : Vector Group 16) : Nat := (plan.toList.map (Group.cost guardTime)).sum

/-- Airtime used: BEACON plus, for each non-empty group, its group time plus GUARD (R43). -/
def airtimeOf (p : Params) (plan : Vector Group 16) : Nat := p.beacon + planCost p.guardTime plan

/-- The limit of every antenna, 10,000 − RESERVE (R44). -/
def limitOf (p : Params) : Nat := Config.frameMicros - p.reserve

/-- A plan with one place written. -/
def putSeat (plan : Vector Group 16) (g : GroupIx) (n : SeatNo) (x : Option Seat) : Vector Group 16 :=
  plan.set g.val ((plan.get g).put n x) g.isLt

/-- The plan holds no seat (R36). -/
def planEmpty (plan : Vector Group 16) : Bool := plan.toList.all Group.isEmpty

/-! ## Placement (R45 to R47) -/

/-- An option of a placement: where the seat goes and what it adds to the airtime used (R45). -/
structure Placement where
  group : GroupIx
  seat : SeatNo
  increase : Nat
  deriving DecidableEq, Repr

/-- Join the group at a position, if it holds exactly one seat: the new seat takes the free place (R45). -/
def joinOption (plan : Vector Group 16) (b : Nat) (g : GroupIx) : Option Placement :=
  match (plan.get g).lone? with
  | none => none
  | some (m, free) => some { group := g, seat := free, increase := b - m.burst }

/-- The joins, in ascending group index (R45). -/
def joinOptions (plan : Vector Group 16) (b : Nat) : List Placement := groupOrder.filterMap (joinOption plan b)

/-- Open the lowest-indexed empty position at seat 0 (R45). -/
def openOption (plan : Vector Group 16) (guardTime b : Nat) : Option Placement :=
  match groupOrder.find? fun g => (plan.get g).isEmpty with
  | none => none
  | some g => some { group := g, seat := 0, increase := b + guardTime }

/-- The first of the options with the smallest increase. -/
def smallest : List Placement → Option Placement
  | [] => none
  | p :: rest =>
    match smallest rest with
    | none => some p
    | some q => if p.increase ≤ q.increase then some p else some q

/-- The option chosen for a new seat of burst b: the smallest increase, a join before the open, the lower group index
among joins (R45). -/
def choosePlacement (plan : Vector Group 16) (guardTime b : Nat) : Option Placement :=
  smallest (joinOptions plan b ++ (openOption plan guardTime b).toList)

/-- Placement at an antenna: the chosen option where it fits, nothing for FRAME FULL (R47). -/
def place? (s : State) (a : AntennaId) (b : Nat) : Option Placement :=
  match choosePlacement (s.ant a).plan s.params.guardTime b with
  | none => none
  | some p => if (s.ant a).airtime + p.increase ≤ limitOf s.params then some p else none

/-! ## Seats (R48, R52 to R54) and carriage (R58) -/

/-- Carriage raised by 1 on every channel of a set (R58). -/
def raiseCarriage (c : Vector Nat 16) (l : ListenSet) : Vector Nat 16 :=
  c.mapIdx fun i n => if l.getLsbD i then n + 1 else n

/-- Carriage lowered by 1 on every channel of a set (R58). -/
def lowerCarriage (c : Vector Nat 16) (l : ListenSet) : Vector Nat 16 :=
  c.mapIdx fun i n => if l.getLsbD i then n - 1 else n

/-- The antenna's plan becomes another: the airtime used is recomputed and the plan is marked due (R43, R60). -/
def State.setPlan (s : State) (a : AntennaId) (plan : Vector Group 16) : State :=
  s.modAnt a fun x => { x with plan := plan, airtime := airtimeOf s.params plan, planDue := true }

/-- The antenna's carriage counts become others; the plan is marked due (R59). -/
def State.setCarriage (s : State) (a : AntennaId) (c : Vector Nat 16) : State :=
  s.modAnt a fun x => { x with carriage := c, planDue := true }

/-- Taking a placed seat: written, airtime recomputed, carriage raised, plan marked due; no effects follow (R48). -/
def takeSeat (a : AntennaId) (p : Placement) (seat : Seat) (listen : ListenSet) (s : State) : State :=
  let s := s.setPlan a (putSeat (s.ant a).plan p.group p.seat (some seat))
  s.setCarriage a (raiseCarriage (s.ant a).carriage listen)

/-- Steps 1 to 4 of R53: the seat leaves its group, airtime is recomputed, carriage lowered, the plan marked due. -/
def unseat (a : AntennaId) (g : GroupIx) (n : SeatNo) (listen : ListenSet) (s : State) : State :=
  let s := s.setPlan a (putSeat (s.ant a).plan g n none)
  s.setCarriage a (lowerCarriage (s.ant a).carriage listen)

/-! ## Re-placement of a keyed seat (R50, R51) -/

/-- The options of a re-placement with the seat set aside: staying beside the partner, the other joins, the open;
`plan` is the antenna's plan without the seat (R50). -/
def replaceOptions (plan : Vector Group 16) (guardTime t : Nat) (v : Serving) : List Placement :=
  match joinOption plan t v.group with
  | some stay =>
    stay :: ((joinOptions plan t).filter fun p => p.group != v.group) ++ (openOption plan guardTime t).toList
  | none => joinOptions plan t ++ [{ group := v.group, seat := v.seat, increase := t + guardTime }]

/-- Re-placement of a headset's serving seat for its talk burst: the state after it, with the key ON and the seat
recorded, and whether the seat moved out of its group; nothing where the choice does not fit (R50, R51). -/
def rePlace? (s : State) (i : RosterIx) : Option (State × Bool) :=
  match s.rec? i with
  | none => none
  | some r =>
    match r.serving with
    | none => none
    | some v =>
      let plan := putSeat (s.ant v.antenna).plan v.group v.seat none
      match smallest (replaceOptions plan s.params.guardTime r.profile.talkBurst v) with
      | none => none
      | some p =>
        if airtimeOf s.params plan + p.increase ≤ limitOf s.params then
          let seat : Seat := { headset := i, kind := .serving, burst := r.profile.talkBurst }
          let s := s.setPlan v.antenna (putSeat plan p.group p.seat (some seat))
          let s := s.modRec i fun r =>
            { r with serving := some { v with group := p.group, seat := p.seat }, key := .on }
          some (s, p.group != v.group)
        else none

/-! ## Room made (R55 to R57) -/

/-- The record with the blocked flag cleared in every candidate entry that names an antenna (R56). -/
def Record.unblock (a : AntennaId) (r : Record) : Record :=
  { r with candidates := r.candidates.map fun c => if c.antenna = a then { c with blocked := false } else c }

/-- Clear the blocked flags naming an antenna, in every record that is not FREE (R56). -/
def clearBlocked (a : AntennaId) (s : State) : State :=
  { s with roster := s.roster.map fun r => r.map (Record.unblock a) }

/-- The queue trial with a bound on the grants it can make: the head is re-placed, and leaves the queue where that
succeeds; the first head that fails ends the trial (R57). -/
def queueTrialLoop (a : AntennaId) : Nat → State → State
  | 0, s => s
  | n + 1, s =>
    match (s.ant a).queue with
    | [] => s
    | h :: rest =>
      match rePlace? s h with
      | none => s
      | some (s, _) => queueTrialLoop a n (s.modAnt a fun x => { x with queue := rest, planDue := true })

/-- The queue trial at an antenna (R57). -/
def queueTrial (a : AntennaId) (s : State) : State := queueTrialLoop a (s.ant a).queue.length s

/-- The room-made effects at an antenna: blocked flags cleared, then the queue trial (R55). -/
def roomMade (a : AntennaId) (s : State) : State := queueTrial a (clearBlocked a s)

/-- A DRAINING antenna that holds no seat becomes CLOSED and its plan is marked due (R36). -/
def closureCheck (a : AntennaId) (s : State) : State :=
  if (s.ant a).state = .draining ∧ planEmpty (s.ant a).plan = true then
    s.modAnt a fun x => { x with state := .closed, planDue := true }
  else s

/-- Releasing a seat, with its room-made effects and the closure check (R53). -/
def releaseSeat (a : AntennaId) (g : GroupIx) (n : SeatNo) (listen : ListenSet) (s : State) : State :=
  closureCheck a (roomMade a (unseat a g n listen s))

/-- The seat with the talk burst of a profile lowered to the listen burst; another burst stands (R52). -/
def Seat.lowered (p : Profile) (x : Seat) : Seat :=
  if x.burst = p.talkBurst then { x with burst := p.listenBurst } else x

/-- Lowering a seat's burst in place, with the room-made effects (R52). -/
def lowerSeat (a : AntennaId) (g : GroupIx) (n : SeatNo) (p : Profile) (s : State) : State :=
  let plan := (s.ant a).plan
  roomMade a (s.setPlan a (putSeat plan g n (((plan.get g).seat n).map (Seat.lowered p))))

/-- The reserved seat becomes the serving seat in place; where the key is not ON and the seat carries the talk burst it
is lowered, with the room-made effects (R54). -/
def convertSeat (a : AntennaId) (g : GroupIx) (n : SeatNo) (r : Record) (s : State) : State :=
  let plan := (s.ant a).plan
  let s := s.setPlan a (putSeat plan g n (((plan.get g).seat n).map fun x => { x with kind := .serving }))
  if r.key ≠ .on ∧ burstOf ((plan.get g).seat n) = r.profile.talkBurst then lowerSeat a g n r.profile s else s

/-! ## Keys (R67, R71, R74) -/

/-- The key state of a record becomes another. -/
def setKey (i : RosterIx) (k : KeyState) (s : State) : State := s.modRec i fun r => { r with key := k }

/-- A headset leaves an antenna's key wait queue; the others keep their order (R71). -/
def leaveQueue (a : AntennaId) (i : RosterIx) (s : State) : State :=
  s.modAnt a fun x => { x with queue := x.queue.filter fun j => j != i }

/-- A headset joins the tail of an antenna's key wait queue and its key becomes WAITING (R70). -/
def joinQueue (a : AntennaId) (i : RosterIx) (s : State) : State :=
  setKey i .waiting (s.modAnt a fun x => { x with queue := x.queue ++ [i] })

/-- A headset's place in a queue, 1 for the head; 0 when it is not there (R166). -/
def placeIn (q : List RosterIx) (i : RosterIx) : Nat :=
  match q with
  | [] => 0
  | j :: rest => if j = i then 1 else
    match placeIn rest i with
    | 0 => 0
    | n + 1 => n + 2

/-- The outcome of a KEY on from OFF, or of a PENDING key applied (R67, R74). -/
inductive KeyOutcome where
  | granted | waiting | queueFull
  deriving DecidableEq, Repr

/-- KEY on for a SETTLED record: re-placement, else the queue, else the press is lost (R67, R74). -/
def keyPress (i : RosterIx) (s : State) : State × KeyOutcome :=
  match (s.rec? i).bind Record.serving with
  | none => (s, .queueFull)
  | some v =>
    match rePlace? s i with
    | some (s, moved) => (if moved then roomMade v.antenna s else s, .granted)
    | none =>
      if (s.ant v.antenna).queue.length < Config.maxQueue then (joinQueue v.antenna i s, .waiting)
      else (setKey i .off s, .queueFull)

/-- A PENDING key of a record that has become SETTLED is applied once, as a fresh KEY on (R74). -/
def applyPending (i : RosterIx) (s : State) : State :=
  match s.rec? i with
  | none => s
  | some r => if r.key = .pending ∧ r.state = .settled then (keyPress i s).1 else s

end Sys2Proof.Machine
end

