-- ==== Sys2Proof/Machine/Handoff.lean ====
section
/-! DEFINITION. The Handoff Engine: terms and dwell, the trigger, starts and depth releases
(spec/06_handoff_decisions_and_the_handoff_table.md), completion and abort (spec/07_the_handoff_exchange.md). -/

namespace Sys2Proof.Machine

/-! ## Terms and qualification (R99, R100) -/

/-- The three sets of terms (R99). -/
inductive Terms where
  | normal | weak | drain
  deriving DecidableEq, Repr

/-- The record's serving antenna is DRAINING. -/
def servedDraining (s : State) (r : Record) : Bool :=
  match r.serving with
  | none => false
  | some v => (s.ant v.antenna).state == .draining

/-- The terms a SETTLED or HANDING record is judged under (R99). -/
def termsOf (s : State) (r : Record) : Terms :=
  if servedDraining s r then .drain else if r.weak then .weak else .normal

/-- The dwell a candidate needs to be chosen (R99). -/
def requiredDwell (p : Params) : Terms → Nat
  | .normal => p.dwell
  | .weak => 1
  | .drain => 1

/-- The level test of R100. -/
def levelTest (p : Params) (t : Terms) (f16s f16c : Nat) : Bool :=
  match t with
  | .normal => f16s + p.margin * 16 ≤ f16c
  | .weak => f16s ≤ f16c && p.lossLevel * 16 ≤ f16c
  | .drain => p.lossLevel * 16 ≤ f16c

/-- A candidate entry qualifies under the record's terms (R100). -/
def qualifies (s : State) (r : Record) (c : Candidate) : Bool := levelTest s.params (termsOf s r) r.f16s c.f16

/-- A candidate entry is eligible as a handoff target (R100). -/
def eligible (s : State) (r : Record) (c : Candidate) : Bool :=
  (s.ant c.antenna).state == .active && !c.blocked && s.targetOf? r != some c.antenna

/-! ## The candidate list (R87, R88) -/

/-- The list holds an entry that names an antenna. -/
def hasCandidate (l : List Candidate) (a : AntennaId) : Bool := l.any fun c => c.antenna == a

/-- The list without the entry that names an antenna. -/
def dropCandidate (l : List Candidate) (a : AntennaId) : List Candidate := l.filter fun c => c.antenna != a

/-- The list with the entry that names an antenna changed in its place. -/
def mapCandidate (l : List Candidate) (a : AntennaId) (f : Candidate → Candidate) : List Candidate :=
  l.map fun c => if c.antenna = a then f c else c

/-- Place an entry directly after the last other entry whose F16 is at least its own, at the head when there is none
(R88). -/
def placeCandidate (c : Candidate) : List Candidate → List Candidate
  | [] => [c]
  | d :: rest =>
    if (d :: rest).any (fun x => decide (c.f16 ≤ x.f16)) then d :: placeCandidate c rest else c :: d :: rest

/-- The entry of a record's list that names an antenna is changed. -/
def modCandidate (i : RosterIx) (a : AntennaId) (f : Candidate → Candidate) (s : State) : State :=
  s.modRec i fun r => { r with candidates := mapCandidate r.candidates a f }

/-! ## Dwell (R101 to R103) -/

/-- The dwell step for a candidate update, on the updated entry only (R101). -/
def candidateDwell (i : RosterIx) (a : AntennaId) (s : State) : State :=
  match s.rec? i with
  | none => s
  | some r =>
    modCandidate i a (fun c =>
      if c.blocked then { c with dwell := 0 }
      else if s.targetOf? r = some a then c
      else if qualifies s r c then { c with dwell := min 255 (c.dwell + 1) }
      else { c with dwell := 0 }) s

/-- The dwell step for a serving update, on every entry (R102). -/
def servingDwell (i : RosterIx) (s : State) : State :=
  match s.rec? i with
  | none => s
  | some r =>
    let step (c : Candidate) : Candidate :=
      if !c.blocked && s.targetOf? r != some c.antenna && !qualifies s r c then { c with dwell := 0 } else c
    s.modRec i fun r => { r with candidates := r.candidates.map step }

/-- Blocking: the blocked flag is set and dwell becomes 0 (R103). -/
def blockCandidate (i : RosterIx) (a : AntennaId) (s : State) : State :=
  modCandidate i a (fun c => { c with blocked := true, dwell := 0 }) s

/-! ## Starting an entry (R110) and depth release (R111) -/

/-- A QUEUED or failed entry goes without a start: it is freed, the record returns to SETTLED with its serve-lost timer
keeping its count, and a PENDING key is applied (R5, R110, R92). -/
def removeEntry (e : EntryNo) (i : RosterIx) (s : State) : State :=
  applyPending i ((s.freeEntry e).modRec i fun r => { r with state := .settled })

/-- The headset's current burst (R49). -/
def Record.currentBurst (r : Record) : Nat := if r.key = .on then r.profile.talkBurst else r.profile.listenBurst

/-- The entry becomes PREPARING with its reserved seat (R110, step 3; R95). -/
def markStarted (e : EntryNo) (x : Entry) (p : Placement) (s : State) : State :=
  modCandidate x.headset x.target (fun c => { c with age := none })
    (s.modEntry e fun y =>
      { y with phase := .preparing, reserved := some (p.group, p.seat), prepareDue := true,
               prepTimer := some Timer.start })

/-- The start of an entry (R110). -/
def startEntry (e : EntryNo) (s : State) : State :=
  match s.entry? e with
  | none => s
  | some x =>
    match s.rec? x.headset with
    | none => s.freeEntry e
    | some r =>
      if (s.ant x.target).state ≠ .active ∨ hasCandidate r.candidates x.target = false then
        removeEntry e x.headset s
      else
        match place? s x.target r.currentBurst with
        | none => removeEntry e x.headset (blockCandidate x.headset x.target s)
        | some p =>
          let seat : Seat := { headset := x.headset, kind := .reserved, burst := r.currentBurst }
          markStarted e x p (takeSeat x.target p seat r.listen s)

/-- A depth release with a bound on the starts it can make (R111). -/
def depthReleaseLoop (k : LinkId) : Nat → State → State
  | 0, s => s
  | n + 1, s =>
    if s.depth k < s.params.handoffDepth then
      match s.handoffs.find? (s.queuedFor k) with
      | none => s
      | some x => depthReleaseLoop k n (startEntry x.num s)
    else s

/-- A depth release for a link: each start leaves one QUEUED entry fewer, so the table's size bounds it (R111). -/
def depthRelease (k : LinkId) (s : State) : State := depthReleaseLoop k s.handoffs.length s

/-- The depth release that follows an event which lowered a link's depth, if it lowered one. -/
def depthReleaseFor (k : Option LinkId) (s : State) : State :=
  match k with
  | none => s
  | some k => depthRelease k s

/-- Depth releases for CL0 to CL3 in turn (R31, R113). -/
def depthReleaseAll (s : State) : State := linkOrder.foldl (fun s k => depthRelease k s) s

/-! ## Trigger (R104, R108) -/

/-- The key state at a trigger: a WAITING headset leaves its queue and its key becomes PENDING (R73). -/
def keyAtTrigger (i : RosterIx) (s : State) : State :=
  match s.rec? i with
  | none => s
  | some r =>
    match r.key, r.serving with
    | .waiting, some v => setKey i .pending (leaveQueue v.antenna i s)
    | _, _ => s

/-- A new entry must wait: its link is at depth, or an older QUEUED entry targets the link (R108). -/
def mustQueue (s : State) (t : AntennaId) : Bool :=
  match s.owner t with
  | none => false
  | some k => decide (s.params.handoffDepth ≤ s.depth k) || s.handoffs.any (s.queuedFor k)

/-- A handoff is triggered toward target t (R108). -/
def trigger (i : RosterIx) (t : AntennaId) (s : State) : State :=
  match (s.rec? i).bind Record.serving, s.freeNumber? with
  | some v, some e =>
    let wait := mustQueue s t
    let s := keyAtTrigger i s
    let s := s.modRec i fun r => { r with state := .handing, handoff := some e }
    let entry : Entry :=
      { num := e, headset := i, source := v.antenna, target := t, phase := .queued, reserved := none,
        seq := s.seqCounter, switchFrame := none, prepTimer := none, moveTimer := none,
        prepareDue := false, moveDue := false }
    let s := { s with handoffs := s.handoffs ++ [entry], seqCounter := s.seqCounter + 1 }
    if wait then s else startEntry e s
  | _, _ => s

/-- The target of a trigger evaluation: the first entry in list order that is eligible, qualifies, and has the required
dwell unless that is waived (R104). -/
def evaluationTarget (waive : Bool) (s : State) (r : Record) : Option AntennaId :=
  match r.candidates.find? fun c =>
    eligible s r c && qualifies s r c && (waive || decide (requiredDwell s.params (termsOf s r) ≤ c.dwell)) with
  | none => none
  | some c => some c.antenna

/-- One trigger evaluation, run only for a SETTLED record (R104). -/
def evaluate (waive : Bool) (i : RosterIx) (s : State) : State :=
  match s.rec? i with
  | none => s
  | some r =>
    if r.state = .settled ∧ s.handoffs.length < Config.tableSize then
      match evaluationTarget waive s r with
      | none => s
      | some t => trigger i t s
    else s

/-! ## Abort (R130) -/

/-- What becomes of an aborted entry's reserved seat: released with its effects (R53), dropped with an antenna that
goes DOWN (R26), or released with the room-made effects held (R9). -/
inductive SeatEnd where
  | released | dropped | held
  deriving DecidableEq, Repr

/-- Step 1 of an abort (R130). -/
def endReserved (m : SeatEnd) (x : Entry) (s : State) : State :=
  match x.reserved, s.rec? x.headset with
  | some (g, n), some r =>
    match m with
    | .released => releaseSeat x.target g n r.listen s
    | .dropped => s
    | .held => unseat x.target g n r.listen s
  | _, _ => s

/-- Step 2 of an abort: the target entry's dwell becomes 0, and a target candidate becomes an ordinary entry with its
age timer restarted (R130, R95). -/
def endTarget (x : Entry) (s : State) : State :=
  modCandidate x.headset x.target (fun c =>
    if x.phase = .queued then { c with dwell := 0 } else { c with dwell := 0, age := some Timer.start }) s

/-- Steps 1 to 4 of an abort: an abort without return (R130, R5). -/
def abortEntry (m : SeatEnd) (e : EntryNo) (s : State) : State :=
  match s.entry? e with
  | none => s
  | some x => (endTarget x (endReserved m x s)).freeEntry e

/-- The link whose depth an entry's end lowers: the owner of the target of a PREPARING or MOVING entry (R109). -/
def depthLink (s : State) (x : Entry) : Option LinkId := if x.phase = .queued then none else s.owner x.target

/-- Steps 5 and 6 of an abort: a headset with a serving seat returns to SETTLED, the serving antenna's plan is marked
due after MOVING, and a PENDING key is applied; without one the record stays ADRIFT (R130, R131). -/
def returnRecord (x : Entry) (s : State) : State :=
  match (s.rec? x.headset).bind Record.serving with
  | none => s
  | some v =>
    let s := s.modRec x.headset fun r => { r with state := .settled, serveLost := some Timer.start }
    applyPending x.headset (if x.phase = .moving then s.markDue v.antenna else s)

/-- An abort with return, without the depth release that follows it (R130). -/
def abortReturn (m : SeatEnd) (e : EntryNo) (s : State) : State :=
  match s.entry? e with
  | none => s
  | some x => returnRecord x (abortEntry m e s)

/-- An abort with return, and the depth release for the target's owning link (R130, R111). -/
def abortAndRelease (e : EntryNo) (s : State) : State :=
  match s.entry? e with
  | none => s
  | some x => depthReleaseFor (depthLink s x) (abortReturn .released e s)

/-- An abort without return of whatever entry a record holds; the caller takes the depth release (R5). -/
def abortHeld (m : SeatEnd) (r : Record) (s : State) : State :=
  match r.handoff with
  | none => s
  | some e => abortEntry m e s

/-- The link whose depth the end of a record's entry lowers. -/
def depthLinkOf (s : State) (r : Record) : Option LinkId :=
  match s.entryOf? r with
  | none => none
  | some x => depthLink s x

/-! ## Completion (R127, R128) -/

/-- Step 1 of a completion: the old serving seat is released (R127). -/
def releaseServing (r : Record) (s : State) : State :=
  match r.serving with
  | none => s
  | some v => releaseSeat v.antenna v.group v.seat r.listen s

/-- The F16 of the candidate entry naming an antenna, or a given value when there is none. -/
def heldLevel (l : List Candidate) (a : AntennaId) (old : Nat) : Nat :=
  match l.find? fun c => c.antenna == a with
  | none => old
  | some c => c.f16

/-- The offered entry for the old serving antenna (R128). -/
def offeredCandidate (a : AntennaId) (f16s : Nat) : Candidate :=
  { antenna := a, f16 := f16s, dwell := 0, age := some Timer.start, blocked := false }

/-- Steps 3 to 5 of a completion: F16S takes the target candidate's F16, which leaves the list; WEAK and every dwell
are cleared; the old serving antenna `offer` is inserted with the last F16S (R127, R128). -/
def Record.completeFilter (t : AntennaId) (offer : Option AntennaId) (r : Record) : Record :=
  let rest := (dropCandidate r.candidates t).map fun c => { c with dwell := 0 }
  { r with
    f16s := heldLevel r.candidates t r.f16s
    weak := false
    candidates :=
      match offer with
      | none => rest
      | some a => if hasCandidate rest a then rest else placeCandidate (offeredCandidate a r.f16s) rest }

/-- The old serving antenna is offered when step 1 released a seat there and it is ACTIVE (R127, step 5). -/
def offerOf (s : State) (r : Record) : Option AntennaId :=
  match r.serving with
  | none => none
  | some v => if (s.ant v.antenna).state = .active then some v.antenna else none

/-- Completion of an entry (R127). -/
def completeEntry (e : EntryNo) (s : State) : State :=
  match s.entry? e with
  | none => s
  | some x =>
    match s.rec? x.headset, x.reserved with
    | some r, some (g, n) =>
      let k := depthLink s x
      let s := releaseServing r s
      let s := convertSeat x.target g n r s
      let offer := offerOf s r
      let s := s.modRec x.headset fun r =>
        { r.completeFilter x.target offer with
          serving := some { antenna := x.target, group := g, seat := n }
          state := .settled
          handoff := none
          serveLost := some Timer.start
          retain := none }
      let s := applyPending x.headset s
      depthReleaseFor k (s.freeEntry e)
    | _, _ => s

end Sys2Proof.Machine
end

