-- ==== Sys2Proof/Machine/Filter.lean ====
section
/-! DEFINITION. The Quality Filter (spec/05_link_quality_filtering.md): the level filter, WEAK, the candidate list and
the application of one (headset, level) pair of a LEVELS request. -/

namespace Sys2Proof.Machine

/-! ## The level filter (R81) and WEAK (R84) -/

/-- The filter update of R81: T = L × 16, d = (T − F16) × w, and F16 + floor((d + 8) / 16); the integer quotient by 16
rounds toward minus infinity. -/
def filterUpdate (w f16 : Nat) (level : Byte) : Nat :=
  let t : Int := level.toNat * 16
  let d : Int := (t - f16) * w
  (f16 + (d + 8) / 16 : Int).toNat

/-- The seed of a reported level (R82). -/
def seedOf (level : Byte) : Nat := level.toNat * 16

/-- WEAK after a serving update (R84). -/
def weakAfter (p : Params) (f16s : Nat) (weak : Bool) : Bool :=
  if f16s < p.lossLevel * 16 then true
  else if f16s < (p.lossLevel + p.lossHyst) * 16 then weak
  else false

/-- A reported level reaches LOSS_LEVEL, in level units (R80, R86). -/
def reachesLoss (p : Params) (level : Byte) : Bool := p.lossLevel ≤ level.toNat

/-! ## Leaving and entering the list (R90 to R92) -/

/-- An entry leaves the list by displacement or ageing, and with it a QUEUED handoff entry that names it (R92). -/
def removeCandidate (i : RosterIx) (a : AntennaId) (s : State) : State :=
  match s.rec? i with
  | none => s
  | some r =>
    let s' := s.modRec i fun r => { r with candidates := dropCandidate r.candidates a }
    match s.entryOf? r with
    | none => s'
    | some x => if x.phase = .queued ∧ x.target = a then removeEntry x.num i s' else s'

/-- The new entry of a candidate report (R90). -/
def newCandidate (a : AntennaId) (level : Byte) : Candidate :=
  { antenna := a, f16 := seedOf level, dwell := 0, age := some Timer.start, blocked := false }

/-- A new entry is placed in the list (R90). -/
def insertCandidate (i : RosterIx) (c : Candidate) (s : State) : State :=
  s.modRec i fun r => { r with candidates := placeCandidate c r.candidates }

/-- The weakest removable entry: the last in list order that is not the target candidate (R91). -/
def weakestRemovable (s : State) (r : Record) : Option Candidate :=
  r.candidates.reverse.find? fun c => s.targetOf? r != some c.antenna

/-- A candidate update is handed on by the record's state (R89). -/
def handOn (i : RosterIx) (a : AntennaId) (s : State) : State :=
  match s.rec? i with
  | none => s
  | some r =>
    match r.state with
    | .settled => evaluate false i (candidateDwell i a s)
    | .handing => candidateDwell i a s
    | .adrift => modCandidate i a (fun c => { c with dwell := 0 }) s

/-- The update of an entry already in the list: filtered, its age timer restarted, placed again (R90). -/
def updateCandidate (i : RosterIx) (c : Candidate) (level : Byte) (s : State) : State :=
  let c' := { c with f16 := filterUpdate s.params.filterWeight c.f16 level, age := some Timer.start }
  s.modRec i fun r => { r with candidates := placeCandidate c' (dropCandidate r.candidates c.antenna) }

/-- A candidate report, and whether it counts as applied (R90, R91). -/
def candidateReport (i : RosterIx) (a : AntennaId) (level : Byte) (s : State) : State × Bool :=
  match s.rec? i with
  | none => (s, false)
  | some r =>
    match r.candidates.find? fun c => c.antenna == a with
    | some c => (handOn i a (updateCandidate i c level s), true)
    | none =>
      if r.candidates.length < Config.maxCandidates then
        (handOn i a (insertCandidate i (newCandidate a level) s), true)
      else
        match weakestRemovable s r with
        | none => (s, false)
        | some w =>
          if w.f16 < seedOf level then
            (handOn i a (insertCandidate i (newCandidate a level) (removeCandidate i w.antenna s)), true)
          else (s, false)

/-! ## Serving reports (R83, R86) -/

/-- F16S is updated and WEAK assessed (R83 steps 1 and 3, R86 step 1). -/
def servingUpdate (i : RosterIx) (level : Byte) (s : State) : State :=
  s.modRec i fun r =>
    let f := filterUpdate s.params.filterWeight r.f16s level
    { r with f16s := f, weak := weakAfter s.params f r.weak }

/-- The evaluation that ends a serving report: for a SETTLED record that is WEAK or served at a DRAINING antenna (R83,
step 5; R86, step 4). -/
def servingEvaluation (i : RosterIx) (s : State) : State :=
  match s.rec? i with
  | none => s
  | some r => if r.state = .settled ∧ (r.weak = true ∨ servedDraining s r = true) then evaluate false i s else s

/-- The switch frame S has begun at frame C: (C − S + 2) modulo 65536 is 2 or more (R121). -/
def switchBegun (c : BitVec 16) (switchFrame : BitVec 16) : Bool := 2 ≤ (c - switchFrame + 2).toNat

/-- The bounce-back test of a serving report while MOVING (R86, step 2). -/
def bounceBack (s : State) (x : Entry) (level : Byte) : Bool :=
  (match x.switchFrame with
    | none => false
    | some f => switchBegun s.frameNumber f) && reachesLoss s.params level

/-- A serving report (R83; R86 while the entry is MOVING). -/
def servingReport (i : RosterIx) (level : Byte) (s : State) : State :=
  match s.rec? i with
  | none => s
  | some r =>
    let s' := servingUpdate i level s
    let s' :=
      match s.entryOf? r with
      | none => s'.modRec i fun r => { r with serveLost := some Timer.start }
      | some x =>
        if x.phase = .moving then
          if bounceBack s x level then abortAndRelease x.num s' else s'
        else s'.modRec i fun r => { r with serveLost := some Timer.start }
    servingEvaluation i (servingDwell i s')

/-! ## Re-admission (R16) -/

/-- The fields a record takes when it is seated afresh at an antenna (R9, R11, R16). -/
def Record.seated (a : AntennaId) (p : Placement) (level : Byte) (r : Record) : Record :=
  { r with
    state := .settled
    serving := some { antenna := a, group := p.group, seat := p.seat }
    f16s := seedOf level
    weak := false
    candidates := []
    serveLost := some Timer.start
    retain := none }

/-- Re-admission of an ADRIFT headset at an ACTIVE antenna; a candidate report where no seat fits (R16). -/
def readmit (i : RosterIx) (a : AntennaId) (level : Byte) (r : Record) (s : State) : State × Bool :=
  match place? s a r.profile.listenBurst with
  | none => candidateReport i a level s
  | some p =>
    let seat : Seat := { headset := i, kind := .serving, burst := r.profile.listenBurst }
    let s := takeSeat a p seat r.listen s
    (applyPending i (s.modRec i (Record.seated a p level)), true)

/-! ## One pair of a LEVELS request (R80) -/

/-- The classes of a pair (R80). -/
inductive PairClass where
  | skipped | servingReport | arrival (e : EntryNo) | candidateReport | readmission
  deriving DecidableEq, Repr

/-- The phase of the record's entry when the antenna is its target and it has started (R80, rows 3 and 4). -/
def startedToward (s : State) (r : Record) (a : AntennaId) : Option Entry :=
  match s.entryOf? r with
  | none => none
  | some x => if x.phase ≠ .queued ∧ x.target = a then some x else none

/-- The class of a pair for a record at an antenna: rows 2 to 9 of R80, in order. -/
def classify (s : State) (r : Record) (a : AntennaId) (level : Byte) : PairClass :=
  if r.state ≠ .adrift ∧ (r.serving.map Serving.antenna) = some a then .servingReport
  else
    match startedToward s r a with
    | some x => if x.phase = .preparing then .skipped else .arrival x.num
    | none =>
      if (s.ant a).state = .draining ∨ (s.ant a).state = .closed then .skipped
      else if r.state ≠ .adrift then .candidateReport
      else if (s.entryOf? r).isSome then .candidateReport
      else if reachesLoss s.params level then .readmission
      else .candidateReport

/-- One pair is classified and applied whole; whether it counts as applied (R79, R80). -/
def applyPair (a : AntennaId) (pair : HeadsetId × Byte) (s : State) : State × Bool :=
  match s.findHeadset pair.1 with
  | none => (s, false)
  | some i =>
    match s.rec? i with
    | none => (s, false)
    | some r =>
      match classify s r a pair.2 with
      | .skipped => (s, false)
      | .servingReport => (servingReport i pair.2 s, true)
      | .arrival e => (completeEntry e s, true)
      | .candidateReport => candidateReport i a pair.2 s
      | .readmission => readmit i a pair.2 r s

/-- The pairs applied in order, with the count of those applied (R79). -/
def applyPairs (a : AntennaId) : List (HeadsetId × Byte) → State → State × Nat
  | [], s => (s, 0)
  | pair :: rest, s =>
    let one := applyPair a pair s
    let more := applyPairs a rest one.1
    (more.1, more.2 + if one.2 then 1 else 0)

end Sys2Proof.Machine
end

