-- ==== Sys2Proof/Machine/Roster.lean ====
section
/-! DEFINITION. The Roster (spec/01_the_headset_roster.md): what ATTACH, DETACH, LISTEN and QUERY HEADSET do, entry into
ADRIFT, eviction, and the expiries of the frame-count timers (R14, R15, R93, R116, R123). -/

namespace Sys2Proof.Machine

/-- What executing a request yields: the state after it, the status of its reply and the reply's bytes from byte 6 on
(R151, R163). -/
structure Answer where
  state : State
  status : Status
  fields : List Byte
  deriving DecidableEq, Repr

/-- An answer that changes nothing and carries the common part alone. -/
def Answer.refuse (s : State) (status : Status) : Answer := { state := s, status := status, fields := [] }

/-- A request that names a headset: BAD FIELD for an invalid ID, another status for an unknown headset, else the action
on its roster index and record (R3). -/
def withHeadset (h : HeadsetId) (missing : Status) (s : State) (act : RosterIx → Record → Answer) : Answer :=
  if validHeadset h then
    match s.findHeadset h with
    | none => .refuse s missing
    | some i =>
      match s.rec? i with
      | none => .refuse s missing
      | some r => act i r
  else .refuse s .badField

/-! ## Allocation, freeing and eviction (R6, R7) -/

/-- The FREE record with the lowest roster index (R6). -/
def freeIndex? (s : State) : Option RosterIx := rosterOrder.find? fun i => (s.rec? i).isNone

/-- The count of a timer, 0 when stopped. -/
def timerCount (t : Option Timer) : Nat :=
  match t with
  | none => 0
  | some t => t.count

/-- The retain count of an ADRIFT record. -/
def adriftCount (s : State) (i : RosterIx) : Option Nat :=
  match s.rec? i with
  | none => none
  | some r => if r.state = .adrift then some (timerCount r.retain) else none

/-- Among some indexes, the ADRIFT record with the greatest retain count, the lowest index among equals (R7). -/
def evictionChoice (s : State) : List RosterIx → Option (RosterIx × Nat)
  | [] => none
  | i :: rest =>
    match adriftCount s i, evictionChoice s rest with
    | none, c => c
    | some n, none => some (i, n)
    | some n, some (j, m) => if m ≤ n then some (i, n) else some (j, m)

/-- The record that eviction would choose (R7). -/
def victim? (s : State) : Option RosterIx := (evictionChoice s rosterOrder).map Prod.fst

/-- The record becomes FREE: its ID is forgotten, its list discarded, its timers stopped, its reference cleared (R6). -/
def freeRecord (i : RosterIx) (s : State) : State := s.setRec i none

/-! ## ATTACH (R8 to R11) -/

/-- The seat fields of an ATTACH reply: roster index, antenna, group, seat (R163, R165). -/
def seatFields (i : RosterIx) (v : Serving) : List Byte :=
  [byteOf i.val, byteOf v.antenna.val, byteOf v.group.val, byteOf v.seat.val]

/-- The record that R9 writes. -/
def newRecord (h : HeadsetId) (cls : Option Profile) (prof : Profile) (listen : ListenSet) (a : AntennaId)
    (p : Placement) (level : Byte) : Record :=
  { id := h, state := .settled, classCode := cls, profile := prof, listen := listen, key := .off,
    serving := some { antenna := a, group := p.group, seat := p.seat }, f16s := seedOf level, weak := false,
    serveLost := some Timer.start, candidates := [], retain := none, handoff := none }

/-- What eviction did: the state, whether room-made effects at the attach antenna are held, and the link whose depth
fell (R7, R9). -/
structure Evicted where
  state : State
  held : Bool
  lowered : Option LinkId

/-- Eviction for an ATTACH at antenna a, when no record is FREE (R7); the room-made effects of a reserved seat released
at a are held (R9). -/
def evictFor (a : AntennaId) (s : State) : Evicted :=
  match freeIndex? s, victim? s with
  | some _, _ => { state := s, held := false, lowered := none }
  | none, none => { state := s, held := false, lowered := none }
  | none, some i =>
    match s.rec? i with
    | none => { state := s, held := false, lowered := none }
    | some r =>
      let here := s.targetOf? r == some a
      { state := freeRecord i (abortHeld (if here then .held else .released) r s)
        held := here
        lowered := depthLinkOf s r }

/-- ATTACH of an unknown headset at an ACTIVE antenna (R9). -/
def attachNew (h : HeadsetId) (a : AntennaId) (cls : Option Profile) (prof : Profile) (listen : ListenSet)
    (level : Byte) (s : State) : Answer :=
  if (freeIndex? s).isNone ∧ (victim? s).isNone then .refuse s .rosterFull
  else
    match place? s a prof.listenBurst with
    | none => .refuse s .frameFull
    | some _ =>
      let ev := evictFor a s
      match freeIndex? ev.state, place? ev.state a prof.listenBurst with
      | some i, some p =>
        let seat : Seat := { headset := i, kind := .serving, burst := prof.listenBurst }
        let r := newRecord h cls prof listen a p level
        let s := takeSeat a p seat listen (ev.state.setRec i (some r))
        let s := if ev.held then roomMade a s else s
        { state := depthReleaseFor ev.lowered s, status := .ok,
          fields := seatFields i { antenna := a, group := p.group, seat := p.seat } }
      | _, _ => .refuse s .frameFull

/-- ATTACH of an ADRIFT headset at an ACTIVE antenna (R11); the reply carries the seat just placed (R162, R165). -/
def attachAdrift (i : RosterIx) (r : Record) (a : AntennaId) (cls : Option Profile) (prof : Profile)
    (listen : ListenSet) (level : Byte) (s : State) : Answer :=
  let k := depthLinkOf s r
  let s := abortHeld .released r s
  match place? s a prof.listenBurst with
  | none => { state := depthReleaseFor k s, status := .frameFull, fields := [] }
  | some p =>
    let seat : Seat := { headset := i, kind := .serving, burst := prof.listenBurst }
    let s := takeSeat a p seat listen s
    let s := s.modRec i fun r =>
      { r.seated a p level with classCode := cls, profile := prof, listen := listen }
    { state := depthReleaseFor k (applyPending i s), status := .ok,
      fields := seatFields i { antenna := a, group := p.group, seat := p.seat } }

/-- ATTACH of a headset that is SETTLED or HANDING (R10). -/
def attachSeated (i : RosterIx) (r : Record) (a : AntennaId) (s : State) : Answer :=
  match r.serving with
  | none => .refuse s .alreadySeated
  | some v =>
    { state := s, status := if v.antenna = a then .ok else .alreadySeated, fields := seatFields i v }

/-- ATTACH (R8): its checks in order, then R9, R10 or R11. -/
def doAttach (l : LinkId) (h : HeadsetId) (antenna cls : Byte) (listen : ListenSet) (level : Byte) (s : State) :
    Answer :=
  match validHeadset h, antennaOf? antenna, classOf? cls with
  | true, some a, some (code, prof) =>
    if s.owner a ≠ some l then .refuse s .notOwner
    else
      match (s.findHeadset h).bind fun i => (s.rec? i).map fun r => (i, r) with
      | none =>
        if (s.ant a).state ≠ .active then .refuse s .wrongState
        else attachNew h a code prof listen level s
      | some (i, r) =>
        if r.state ≠ .adrift then attachSeated i r a s
        else if (s.ant a).state ≠ .active then .refuse s .wrongState
        else attachAdrift i r a code prof listen level s
  | _, _, _ => .refuse s .badField

/-! ## DETACH (R12) -/

/-- A WAITING headset leaves its serving antenna's key wait queue. -/
def leaveOwnQueue (i : RosterIx) (r : Record) (s : State) : State :=
  match r.key, r.serving with
  | .waiting, some v => leaveQueue v.antenna i s
  | _, _ => s

/-- The teardown of DETACH: entry, queue, serving seat, record, then the depth release (R12, R111). -/
def detachRecord (i : RosterIx) (r : Record) (s : State) : State :=
  depthReleaseFor (depthLinkOf s r)
    (freeRecord i (releaseServing r (leaveOwnQueue i r (abortHeld .released r s))))

/-- DETACH (R12). -/
def doDetach (h : HeadsetId) (s : State) : Answer :=
  withHeadset h .noSuchHeadset s fun i r => { state := detachRecord i r s, status := .ok, fields := [] }

/-! ## ADRIFT (R13 to R15) -/

/-- Step 1 of entry into ADRIFT: ON and WAITING become PENDING, a WAITING headset leaves its queue (R13). -/
def keyAtLoss (i : RosterIx) (r : Record) (s : State) : State :=
  match r.key with
  | .waiting => setKey i .pending (leaveOwnQueue i r s)
  | .on => setKey i .pending s
  | .off => s
  | .pending => s

/-- Entry into ADRIFT (R13); the serving seat is released, or dropped with an antenna that goes DOWN (R26). -/
def enterAdrift (m : SeatEnd) (i : RosterIx) (s : State) : State :=
  match s.rec? i with
  | none => s
  | some r =>
    let s := keyAtLoss i r s
    let s := if m = .released then releaseServing r s else s
    s.modRec i fun r =>
      { r with state := .adrift, serving := none, serveLost := none, weak := false, retain := some Timer.start }

/-- The serve-lost expiry of a record (R14). -/
def serveLostExpiry (i : RosterIx) (s : State) : State :=
  match s.rec? i with
  | none => s
  | some r => depthReleaseFor (depthLinkOf s r) (enterAdrift .released i (abortHeld .released r s))

/-- The retain expiry of a record (R15). -/
def retainExpiry (i : RosterIx) (s : State) : State :=
  match s.rec? i with
  | none => s
  | some r => depthReleaseFor (depthLinkOf s r) (freeRecord i (abortHeld .released r s))

/-! ## LISTEN (R18) -/

/-- The change of a listen set at an antenna where the headset holds a seat (R18, R58). -/
def changeCarriage (a : AntennaId) (old new : ListenSet) (s : State) : State :=
  s.setCarriage a (raiseCarriage (lowerCarriage (s.ant a).carriage (old &&& ~~~new)) (new &&& ~~~old))

/-- The listen set is replaced, with its effect at the serving seat's and the reserved seat's antenna (R18). -/
def changeListen (i : RosterIx) (r : Record) (new : ListenSet) (s : State) : State :=
  if new = r.listen then s
  else
    let s := match r.serving with
      | none => s
      | some v => changeCarriage v.antenna r.listen new s
    let s := match s.targetOf? r with
      | none => s
      | some t => changeCarriage t r.listen new s
    s.modRec i fun r => { r with listen := new }

/-- LISTEN (R18). -/
def doListen (h : HeadsetId) (new : ListenSet) (s : State) : Answer :=
  withHeadset h .noSuchHeadset s fun i r => { state := changeListen i r new s, status := .ok, fields := [] }

/-! ## QUERY HEADSET (R19, R167) -/

/-- A one-byte field, 0xFF when absent (R163). -/
def byteOrAbsent (x : Option Nat) : Byte :=
  match x with
  | none => 0xFF
  | some n => byteOf n

/-- A two-byte field, 0xFFFF when absent (R163). -/
def wordOrAbsent (x : Option Nat) : List Byte :=
  match x with
  | none => [0xFF, 0xFF]
  | some n => bytesOfNat16 n

/-- The five bytes of a candidate entry (R167). -/
def candidateBytes (s : State) (r : Record) (c : Candidate) : List Byte :=
  [byteOf c.antenna.val] ++ bytesOfNat16 c.f16 ++
    [byteOf c.dwell, byteOf ((if c.blocked then 1 else 0) + if s.targetOf? r = some c.antenna then 2 else 0)]

/-- The bytes of QUERY HEADSET from byte 6 on (R167). -/
def headsetFields (s : State) (i : RosterIx) (r : Record) : List Byte :=
  let x := s.entryOf? r
  let reserved := x.bind Entry.reserved
  [byteOf i.val, r.state.code, byteOf ((r.classCode.map Profile.number).getD 0), byteOf r.profile.number]
    ++ bytes16 r.listen
    ++ [r.key.code, byteOrAbsent (r.serving.map fun v => v.antenna.val),
        byteOrAbsent (r.serving.map fun v => v.group.val), byteOrAbsent (r.serving.map fun v => v.seat.val)]
    ++ bytesOfNat16 r.f16s
    ++ [byteOf (if r.weak then 1 else 0), byteOrAbsent (r.serveLost.map Timer.count)]
    ++ wordOrAbsent (r.retain.map Timer.count)
    ++ [(x.map fun y => y.phase.code).getD 0, byteOrAbsent (x.map fun y => y.target.val),
        byteOrAbsent (reserved.map fun p => p.1.val), byteOrAbsent (reserved.map fun p => p.2.val),
        byteOf r.candidates.length]
    ++ r.candidates.flatMap (candidateBytes s r)

/-- QUERY HEADSET (R19). -/
def doQueryHeadset (h : HeadsetId) (s : State) : Answer :=
  withHeadset h .noSuchHeadset s fun i r => { state := s, status := .ok, fields := headsetFields s i r }

end Sys2Proof.Machine
end

