-- ==== Sys2Proof/Machine/Antennas.lean ====
section
/-! DEFINITION. The Antenna Table (spec/02_antennas_ownership_and_draining.md): ANT UP, ANT DOWN, ANT DRAIN, ANT REOPEN,
CARD RESTART and QUERY ANTENNA, and the plan bytes that QUERY ANTENNA and FRAME PLAN share (R168). -/

namespace Sys2Proof.Machine

/-- The antenna byte: ID in bits 5 to 0, state code in bits 7 and 6 (R164). -/
def antennaByte (s : State) (a : AntennaId) : Byte := ((s.ant a).state.code <<< 6) ||| byteOf a.val

/-- An antenna request answered OK carries the antenna byte as it stands after the request (R164). -/
def antennaOk (a : AntennaId) (s : State) : Answer := { state := s, status := .ok, fields := [antennaByte s a] }

/-- The checks that ANT UP, ANT DOWN, ANT DRAIN and ANT REOPEN share, in order: the field, a DOWN antenna, the owner
(R24). -/
def antennaRequest (l : LinkId) (antenna : Byte) (s : State) (onDown onUp : AntennaId → Answer) : Answer :=
  match antennaOf? antenna with
  | none => .refuse s .badField
  | some a =>
    if (s.ant a).state = .down then onDown a
    else if s.owner a ≠ some l then .refuse s .notOwner
    else onUp a

/-! ## ANT UP (R25) -/

/-- The antenna record that ANT UP makes (R25). -/
def Antenna.up (l : LinkId) (p : Params) : Antenna :=
  { state := .active, owner := some l, plan := Vector.replicate 16 Group.empty, airtime := p.beacon,
    carriage := Vector.replicate 16 0, queue := [], planDue := true }

/-- A DOWN antenna comes into service under a link, and the blocked flags naming it are cleared (R25). -/
def bringUp (l : LinkId) (a : AntennaId) (s : State) : State :=
  clearBlocked a (s.setAnt a (Antenna.up l s.params))

/-- ANT UP (R24, R25). -/
def doAntUp (l : LinkId) (antenna : Byte) (s : State) : Answer :=
  antennaRequest l antenna s (fun a => antennaOk a (bringUp l a s)) (fun a => antennaOk a s)

/-! ## ANT DOWN (R26 to R31) -/

/-- The numbers of the entries that target an antenna, in creation order (R27, R107). -/
def inbound (s : State) (a : AntennaId) : List EntryNo :=
  (s.handoffs.filter fun x => x.target == a).map Entry.num

/-- Every handoff entry whose target is the antenna is aborted, in creation order (R27; R33, step 2). -/
def abortInbound (m : SeatEnd) (a : AntennaId) (s : State) : State :=
  (inbound s a).foldl (fun s e => abortReturn m e s) s

/-- The record is served at the antenna. -/
def servedAt (r : Record) (a : AntennaId) : Bool := (r.serving.map Serving.antenna) == some a

/-- Step 2 for one record: a headset whose handoff is MOVING away from the antenna goes ADRIFT with its reservation, and
the entry's MOVE-due flag is cleared (R28). -/
def loseMoving (a : AntennaId) (i : RosterIx) (s : State) : State :=
  match s.rec? i with
  | none => s
  | some r =>
    match s.entryOf? r with
    | none => s
    | some x =>
      if x.phase = .moving ∧ x.source = a ∧ servedAt r a = true then
        (enterAdrift .dropped i s).modEntry x.num fun y => { y with moveDue := false }
      else s

/-- Step 3 for one record: a headset served at the antenna loses its seat, its QUEUED or PREPARING handoff aborted
without return, and goes ADRIFT (R29). -/
def loseServed (a : AntennaId) (i : RosterIx) (s : State) : State :=
  match s.rec? i with
  | none => s
  | some r => if servedAt r a then enterAdrift .dropped i (abortHeld .released r s) else s

/-- Steps 4 and 5: the queue, the plan, the carriage and the due flag are cleared and the antenna is DOWN (R30). -/
def clearAntenna (a : AntennaId) (s : State) : State := s.setAnt a Antenna.down

/-- Steps 1 to 5 of ANT DOWN (R26). -/
def goDown (a : AntennaId) (s : State) : State :=
  let s := abortInbound .dropped a s
  let s := rosterOrder.foldl (fun s i => loseMoving a i s) s
  let s := rosterOrder.foldl (fun s i => loseServed a i s) s
  clearAntenna a s

/-- ANT DOWN (R24, R26), with its depth releases after step 5 (R31). -/
def doAntDown (l : LinkId) (antenna : Byte) (s : State) : Answer :=
  antennaRequest l antenna s (fun a => antennaOk a s) (fun a => antennaOk a (depthReleaseAll (goDown a s)))

/-! ## ANT DRAIN (R33 to R36) -/

/-- The antenna's state becomes another and its plan is marked due. -/
def setAntennaState (a : AntennaId) (x : AntennaState) (s : State) : State :=
  s.modAnt a fun y => { y with state := x, planDue := true }

/-- The drain-start walk for one record: one trigger evaluation with the dwell waived (R34). -/
def drainOffer (a : AntennaId) (i : RosterIx) (s : State) : State :=
  match s.rec? i with
  | none => s
  | some r => if servedAt r a then evaluate true i s else s

/-- The drain-start walk (R34). -/
def drainWalk (a : AntennaId) (s : State) : State := rosterOrder.foldl (fun s i => drainOffer a i s) s

/-- ANT DRAIN of an ACTIVE antenna (R33). -/
def startDrain (a : AntennaId) (s : State) : State :=
  depthReleaseAll
    (closureCheck a (drainWalk a (abortInbound .released a (setAntennaState a .draining s))))

/-- ANT DRAIN (R24, R33). -/
def doAntDrain (l : LinkId) (antenna : Byte) (s : State) : Answer :=
  antennaRequest l antenna s (fun _ => .refuse s .wrongState)
    (fun a => antennaOk a (if (s.ant a).state = .active then startDrain a s else s))

/-! ## ANT REOPEN (R37) -/

/-- ANT REOPEN (R24, R37). -/
def doAntReopen (l : LinkId) (antenna : Byte) (s : State) : Answer :=
  antennaRequest l antenna s (fun _ => .refuse s .wrongState)
    (fun a => antennaOk a (if (s.ant a).state = .active then s else setAntennaState a .active s))

/-! ## CARD RESTART (R38) -/

/-- The antennas a link owns, in ascending ID. -/
def ownedBy (s : State) (l : LinkId) : List AntennaId := antennaOrder.filter fun a => s.owner a == some l

/-- CARD RESTART (R38); the reply carries how many antennas were taken down (R164). -/
def doCardRestart (l : LinkId) (s : State) : Answer :=
  { state := depthReleaseAll ((ownedBy s l).foldl (fun s a => goDown a s) s), status := .ok,
    fields := [byteOf (ownedBy s l).length] }

/-! ## The plan bytes (R168) and QUERY ANTENNA (R39) -/

/-- The ID of a record's headset, and its profile, for a seat that stands in a plan. -/
def seatIdentity (s : State) (i : RosterIx) : HeadsetId × Profile :=
  match s.rec? i with
  | none => (0, .p3)
  | some r => (r.id, r.profile)

/-- The four bytes of a seat record: headset ID, and the flags reserved, keyed, seat number and profile (R168). -/
def seatBytes (s : State) (n : Nat) (x : Seat) : List Byte :=
  let who := seatIdentity s x.headset
  bytes24 who.1 ++
    [byteOf ((if x.kind = .reserved then 128 else 0) + (if x.burst = who.2.talkBurst then 64 else 0) + 16 * n +
      who.2.number)]

/-- The seat records of a group, in ascending seat number (R168). -/
def groupSeats (s : State) (g : Group) : List (List Byte) :=
  ((g.seat0.map (seatBytes s 0)).toList) ++ ((g.seat1.map (seatBytes s 1)).toList)

/-- The group record of a position: nothing when it is empty (R168). -/
def groupRecord (s : State) (plan : Vector Group 16) (g : GroupIx) : Option (List Byte) :=
  if (plan.get g).isEmpty then none
  else
    let seats := groupSeats s (plan.get g)
    some ([byteOf g.val, byteOf seats.length] ++ seats.flatten)

/-- The carriage set: the channels whose count is not 0 (R59). -/
def carriageSet (c : Vector Nat 16) : ListenSet :=
  (ascending 16).foldl (fun set ch => if c.get ch = 0 then set else set ||| (1 <<< ch.val)) 0

/-- The plan fields that QUERY ANTENNA and FRAME PLAN share (R61, R168). -/
def planFields (s : State) (a : AntennaId) : List Byte :=
  let x := s.ant a
  let groups := groupOrder.filterMap (groupRecord s x.plan)
  [antennaByte s a] ++ bytes16 s.frameNumber ++ bytesOfNat16 x.airtime ++ bytes16 (carriageSet x.carriage)
    ++ [byteOf groups.length] ++ groups.flatten

/-- QUERY ANTENNA (R39). -/
def doQueryAntenna (antenna : Byte) (s : State) : Answer :=
  match antennaOf? antenna with
  | none => .refuse s .badField
  | some a => { state := s, status := .ok, fields := planFields s a }

end Sys2Proof.Machine
end

