-- ==== Sys2Proof/Machine/Exchange.lean ====
section
/-! DEFINITION. The requests of the talk keys (spec/04_talk_keys.md) and of the handoff exchange
(spec/07_the_handoff_exchange.md), and LEVELS as a whole (R78). -/

namespace Sys2Proof.Machine

/-! ## KEY (R66 to R69) -/

/-- The key fields of a KEY reply, read when the request ends: the key state, and the place in the queue while WAITING
(R166). -/
def keyFields (i : RosterIx) (s : State) : List Byte :=
  match s.rec? i with
  | none => [KeyState.off.code, 0]
  | some r =>
    match r.key, r.serving with
    | .waiting, some v => [r.key.code, byteOf (placeIn (s.ant v.antenna).queue i)]
    | k, _ => [k.code, 0]

/-- A KEY answer with its key fields. -/
def keyAnswer (i : RosterIx) (status : Status) (s : State) : Answer :=
  { state := s, status := status, fields := keyFields i s }

/-- The status of a KEY on that a SETTLED record takes (R67). -/
def KeyOutcome.status : KeyOutcome → Status
  | .granted => .granted
  | .waiting => .waiting
  | .queueFull => .queueFull

/-- KEY on (R67, R68). -/
def keyOn (i : RosterIx) (r : Record) (s : State) : Answer :=
  if r.key ≠ .off then keyAnswer i .ok s
  else if r.state = .settled then keyAnswer i (keyPress i s).2.status (keyPress i s).1
  else keyAnswer i .deferred (setKey i .pending s)

/-- The reserved seat of a record's entry is lowered with its effects where it carries the talk burst (R69). -/
def lowerReserved (r : Record) (s : State) : State :=
  match s.entryOf? r with
  | none => s
  | some x =>
    match x.reserved with
    | none => s
    | some (g, n) =>
      if burstOf (((s.ant x.target).plan.get g).seat n) = r.profile.talkBurst then lowerSeat x.target g n r.profile s
      else s

/-- The serving seat is lowered in place with its effects (R52, R69). -/
def lowerServing (r : Record) (s : State) : State :=
  match r.serving with
  | none => s
  | some v => lowerSeat v.antenna v.group v.seat r.profile s

/-- KEY off (R69). -/
def releaseKey (i : RosterIx) (r : Record) (s : State) : State :=
  match r.key with
  | .off => s
  | .on => setKey i .off (lowerReserved r (lowerServing r s))
  | .waiting => setKey i .off (leaveOwnQueue i r s)
  | .pending => setKey i .off s

/-- The requesting link may send KEY for a record: any link while ADRIFT, else the serving antenna's owner (R66). -/
def mayKey (l : LinkId) (r : Record) (s : State) : Bool :=
  r.state == .adrift || (r.serving.bind fun v => s.owner v.antenna) == some l

/-- KEY (R66): its checks in order, then on or off. -/
def doKey (l : LinkId) (h : HeadsetId) (key : Byte) (s : State) : Answer :=
  if key ≠ 0x00 ∧ key ≠ 0x01 then .refuse s .badField
  else withHeadset h .noSuchHeadset s fun i r =>
    if mayKey l r s = false then .refuse s .notOwner
    else if key = 0x01 then keyOn i r s
    else keyAnswer i .ok (releaseKey i r s)

/-! ## READY and DECLINE (R117 to R119) -/

/-- The checks of READY and DECLINE: a PREPARING entry whose target the requesting link owns, else STALE (R117). -/
def answerPrepare (l : LinkId) (h : HeadsetId) (s : State) (act : Entry → State) : Answer :=
  withHeadset h .stale s fun _ r =>
    match s.entryOf? r with
    | none => .refuse s .stale
    | some x =>
      if x.phase = .preparing ∧ s.owner x.target = some l then { state := act x, status := .ok, fields := [] }
      else .refuse s .stale

/-- READY moves a PREPARING entry to MOVING (R118). -/
def moveEntry (x : Entry) (s : State) : State :=
  (s.modEntry x.num fun y =>
    { y with prepTimer := none, phase := .moving, switchFrame := some (s.frameNumber + 2),
             moveTimer := some Timer.start, moveDue := true }).modRec x.headset fun r => { r with serveLost := none }

/-- READY (R117, R118). -/
def doReady (l : LinkId) (h : HeadsetId) (s : State) : Answer := answerPrepare l h s fun x => moveEntry x s

/-- DECLINE (R117, R119). -/
def doDecline (l : LinkId) (h : HeadsetId) (s : State) : Answer :=
  answerPrepare l h s fun x => abortAndRelease x.num s

/-! ## ARRIVED (R124) and STAY (R125) -/

/-- The record's MOVING entry toward an antenna. -/
def movingToward (s : State) (r : Record) (a : AntennaId) : Option Entry :=
  match s.entryOf? r with
  | none => none
  | some x => if x.phase = .moving ∧ x.target = a then some x else none

/-- ARRIVED at an antenna for a known headset: steps 3 to 5 of R124. -/
def arrivedAt (l : LinkId) (r : Record) (a : AntennaId) (s : State) : Answer :=
  match movingToward s r a with
  | some x =>
    if s.owner a = some l then { state := completeEntry x.num s, status := .ok, fields := [] }
    else .refuse s .notOwner
  | none =>
    if r.state ≠ .adrift ∧ servedAt r a = true then
      if s.owner a = some l then { state := s, status := .ok, fields := [] } else .refuse s .notOwner
    else .refuse s .stale

/-- ARRIVED (R124). -/
def doArrived (l : LinkId) (h : HeadsetId) (antenna : Byte) (s : State) : Answer :=
  match antennaOf? antenna with
  | none => .refuse s .badField
  | some a => withHeadset h .stale s fun _ r => arrivedAt l r a s

/-- STAY (R125). -/
def doStay (l : LinkId) (h : HeadsetId) (s : State) : Answer :=
  withHeadset h .stale s fun _ r =>
    match s.entryOf? r with
    | none => .refuse s .stale
    | some x =>
      if r.state = .handing ∧ x.phase = .moving then
        if (r.serving.bind fun v => s.owner v.antenna) = some l then
          { state := abortAndRelease x.num s, status := .ok, fields := [] }
        else .refuse s .notOwner
      else .refuse s .stale

/-! ## LEVELS (R78) -/

/-- The field checks of LEVELS: the antenna, the count, every pair's headset ID (R78). -/
def levelsFields (antenna : Byte) (pairs : List (HeadsetId × Byte)) : Option AntennaId :=
  if pairs.length = 0 ∨ Config.maxPairs < pairs.length ∨ (pairs.all fun p => validHeadset p.1) = false then none
  else antennaOf? antenna

/-- LEVELS (R78, R79): the reply carries the applied and skipped counts, both 0 when refused (R163). -/
def doLevels (l : LinkId) (antenna : Byte) (pairs : List (HeadsetId × Byte)) (s : State) : Answer :=
  match levelsFields antenna pairs with
  | none => { state := s, status := .badField, fields := [0, 0] }
  | some a =>
    if s.owner a ≠ some l then { state := s, status := .notOwner, fields := [0, 0] }
    else
      { state := (applyPairs a pairs s).1, status := .ok,
        fields := [byteOf (applyPairs a pairs s).2, byteOf (pairs.length - (applyPairs a pairs s).2)] }

end Sys2Proof.Machine
end

