-- ==== Sys2Proof/Machine/Settings.lean ====
section
/-! DEFINITION. Settings and timebase requests (spec/11_settings_straps_and_start_up.md, spec/08_frame_timebase.md):
SET with its checks, GET, TRIM, QUERY CLOCK and CLEAR FLAGS. -/

namespace Sys2Proof.Machine

/-- The value field of a SET or GET reply: the parameter number copied, and a value (R171). -/
def valueFields (number : Byte) (v : Nat) : List Byte := number :: bytesOfNat16 v

/-! ## BEACON, GUARD and RESERVE (R63, R176) -/

/-- A parameter store under which every up antenna's recomputed airtime keeps within the limit (R176). -/
def airtimeFits (s : State) (p : Params) : Bool :=
  antennaOrder.all fun a => (s.ant a).state == .down || decide (airtimeOf p (s.ant a).plan ≤ limitOf p)

/-- The effects of an accepted change at one up antenna, given the limit before it: airtime recomputed, plan marked due,
and the room-made effects where its room has grown (R63). -/
def airtimeChanged (oldLimit : Nat) (s : State) (a : AntennaId) : State :=
  if (s.ant a).state = .down then s
  else
    let oldRoom : Int := (oldLimit : Int) - (s.ant a).airtime
    let s := s.setPlan a (s.ant a).plan
    let newRoom : Int := (limitOf s.params : Int) - (s.ant a).airtime
    if oldRoom < newRoom then roomMade a s else s

/-- A changed BEACON, GUARD or RESERVE is stored, with its effects at every up antenna (R63, R176). -/
def storeAirtime (p : Params) (s : State) : State :=
  antennaOrder.foldl (airtimeChanged (limitOf s.params)) { s with params := p }

/-! ## SET (R175 to R177) -/

/-- The parameters checked by R176. -/
def Param.isAirtime : Param → Bool
  | .beacon | .guardTime | .reserve => true
  | _ => false

/-- Steps 4 and 5 of R175 for a candidate value: the refusal, or the state that stores it. A value equal to the one
stored passes and changes nothing. -/
def storeParam (q : Param) (v : Nat) (s : State) : Except Status State :=
  let p := s.params.write q v
  if s.params.read q = v then .ok s
  else if q.isAirtime then
    if airtimeFits s p then .ok (storeAirtime p s) else .error .overLimit
  else if q = .handoffDepth then
    if linkOrder.any fun k => decide (v < s.depth k) then .error .wrongState
    else if s.params.handoffDepth < v then .ok (depthReleaseAll { s with params := p })
    else .ok { s with params := p }
  else .ok { s with params := p }

/-- SET for a named parameter: permission, clamp, check, store (R175, R178). -/
def setParam (l : LinkId) (number : Byte) (q : Param) (value : Nat) (s : State) : Answer :=
  if l ≠ s.settingsLink then
    { state := s, status := .notPermitted, fields := valueFields number (s.params.read q) }
  else
    match storeParam q (q.clamp value) s with
    | .error e => { state := s, status := e, fields := valueFields number (s.params.read q) }
    | .ok s' =>
      { state := s', status := if q.clamp value = value then .ok else .okClamped,
        fields := valueFields number (q.clamp value) }

/-- SET (R175). -/
def doSet (l : LinkId) (number : Byte) (value : BitVec 16) (s : State) : Answer :=
  match Param.ofNumber? number with
  | none => .refuse s .badField
  | some q => setParam l number q value.toNat s

/-- GET (R174). -/
def doGet (number : Byte) (s : State) : Answer :=
  match Param.ofNumber? number with
  | none => .refuse s .badField
  | some q => { state := s, status := .ok, fields := valueFields number (s.params.read q) }

/-! ## TRIM (R137) and QUERY CLOCK (R142) -/

/-- A trim field saturated to −2048 to 2047 (R137). -/
def saturateTrim (v : Int) : Int := max (-2048) (min 2047 v)

/-- The two bytes of a trim value, two's complement (R169, R171). -/
def trimBytes (t : Int) : List Byte := bytes16 (BitVec.ofInt 16 t)

/-- TRIM (R137). -/
def doTrim (l : LinkId) (value : BitVec 16) (s : State) : Answer :=
  if l ≠ s.settingsLink then { state := s, status := .notPermitted, fields := trimBytes s.trim }
  else
    { state := { s with trim := saturateTrim value.toInt },
      status := if saturateTrim value.toInt = value.toInt then .ok else .okClamped,
      fields := trimBytes (saturateTrim value.toInt) }

/-- QUERY CLOCK (R142, R169). -/
def doQueryClock (s : State) : Answer :=
  { state := s, status := .ok,
    fields := bytes16 s.frameNumber ++ trimBytes s.trim ++ bytes24 (BitVec.ofInt 24 s.acc) }

/-! ## CLEAR FLAGS (R155) -/

/-- CLEAR FLAGS acts on the requesting link's own flags (R155). -/
def doClearFlags (l : LinkId) (mask : Byte) (s : State) : Answer :=
  { state := s.modLink l fun x => x.clearFlags mask, status := .ok, fields := [] }

end Sys2Proof.Machine
end

