-- ==== Sys2Proof/Machine/Timebase.lean ====
section
/-! DEFINITION. The Frame Timebase (spec/08_frame_timebase.md): the frame boundary, the frame-count timers' boundary and
expiries, FSYNC, and reset and its release (R180). -/

namespace Sys2Proof.Machine

/-! ## The frame boundary (R135, R138, R139) -/

/-- The timebase at a boundary: the next frame's length from A and T, the new A, the frame number, FSYNC high. -/
def advanceClock (s : State) : State :=
  let sum : Int := s.acc + s.trim * Config.nominalFrame
  { s with
    frameLength := Config.nominalFrame - sum / Config.trimModulus
    acc := sum % Config.trimModulus
    frameNumber := s.frameNumber + 1
    fsync := true }

/-- A record's running timers take the boundary (R140; R85, R15, R93). -/
def Record.boundary (p : Params) (r : Record) : Record :=
  { r with
    serveLost := r.serveLost.map (Timer.boundary p.serveLost)
    retain := r.retain.map (Timer.boundary p.retain)
    candidates := r.candidates.map fun c => { c with age := c.age.map (Timer.boundary p.candAge) } }

/-- A handoff entry's running timers take the boundary (R140; R116, R123). -/
def Entry.boundary (p : Params) (x : Entry) : Entry :=
  { x with
    prepTimer := x.prepTimer.map (Timer.boundary p.prepTime)
    moveTimer := x.moveTimer.map (Timer.boundary p.moveTime) }

/-- Every running timer takes the boundary; those that would reach their parameter are left due (R140). -/
def countTimers (s : State) : State :=
  { s with
    roster := s.roster.map fun r => r.map (Record.boundary s.params)
    handoffs := s.handoffs.map (Entry.boundary s.params) }

/-! ## Expiries (R140) -/

/-- The expiry of one timer. -/
inductive Expiry where
  | serveLost (i : RosterIx)
  | retain (i : RosterIx)
  | candidateAge (i : RosterIx) (a : AntennaId)
  | prepare (e : EntryNo)
  | move (e : EntryNo)
  deriving DecidableEq, Repr

/-- The due expiries of a record. -/
def recordExpiries (i : RosterIx) (r : Record) : List Expiry :=
  (if timerDue r.serveLost then [.serveLost i] else []) ++ (if timerDue r.retain then [.retain i] else []) ++
    (r.candidates.filter fun c => timerDue c.age).map fun c => .candidateAge i c.antenna

/-- The due expiries of a handoff entry. -/
def entryExpiries (x : Entry) : List Expiry :=
  (if timerDue x.prepTimer then [.prepare x.num] else []) ++ (if timerDue x.moveTimer then [.move x.num] else [])

/-- The expiries that the last boundary left due. -/
def dueExpiries (s : State) : List Expiry :=
  (rosterOrder.flatMap fun i => match s.rec? i with
    | none => []
    | some r => recordExpiries i r) ++ s.handoffs.flatMap entryExpiries

/-- A record's serve-lost timer takes the boundary it has still to take, and expires at its parameter (R14, R140). -/
def takeServeLost (i : RosterIx) (s : State) : State :=
  match s.rec? i with
  | none => s
  | some r =>
    if timerExpires s.params.serveLost r.serveLost then serveLostExpiry i s
    else s.setRec i (some { r with serveLost := r.serveLost.map Timer.pass })

/-- A record's retain timer takes the boundary it has still to take, and expires at its parameter (R15, R140). -/
def takeRetain (i : RosterIx) (s : State) : State :=
  match s.rec? i with
  | none => s
  | some r =>
    if timerExpires s.params.retain r.retain then retainExpiry i s
    else s.setRec i (some { r with retain := r.retain.map Timer.pass })

/-- A candidate entry's age timer takes the boundary it has still to take, and expires at its parameter (R93, R140). -/
def takeCandidateAge (i : RosterIx) (a : AntennaId) (s : State) : State :=
  match s.rec? i with
  | none => s
  | some r =>
    if r.candidates.any fun c => c.antenna == a && timerExpires s.params.candAge c.age then removeCandidate i a s
    else s.setRec i (some { r with
      candidates := mapCandidate r.candidates a fun c => { c with age := c.age.map Timer.pass } })

/-- An entry's prepare timer takes the boundary it has still to take, and expires at its parameter (R116, R140). -/
def takePrepare (e : EntryNo) (s : State) : State :=
  match s.entry? e with
  | none => s
  | some x =>
    if timerExpires s.params.prepTime x.prepTimer then abortAndRelease e s
    else s.modEntry e fun y => { y with prepTimer := y.prepTimer.map Timer.pass }

/-- An entry's move timer takes the boundary it has still to take, and expires at its parameter (R123, R140). -/
def takeMove (e : EntryNo) (s : State) : State :=
  match s.entry? e with
  | none => s
  | some x =>
    if timerExpires s.params.moveTime x.moveTimer then abortAndRelease e s
    else s.modEntry e fun y => { y with moveTimer := y.moveTimer.map Timer.pass }

/-- One timer takes the boundary it has still to take. -/
def takeExpiry (x : Expiry) (s : State) : State :=
  match x with
  | .serveLost i => takeServeLost i s
  | .retain i => takeRetain i s
  | .candidateAge i a => takeCandidateAge i a s
  | .prepare e => takePrepare e s
  | .move e => takeMove e s

/-! ## Reset (R180) -/

/-- Reset held: every block at its reset values, all activity discarded; the queue of waiting commands and the model's
own choice counter stand (log entry 5). DESIGN CHOICE, unsafe (log entry 19): R178 and R179 hold the selected link and the
rate until the next reset and give neither a value before its release, so `settingsLink` and `rateCode` stand at CL0 and 00
while reset is held. No command reads them then, and `releaseReset` writes both. -/
def holdReset (s : State) : State :=
  { State.reset with pending := s.pending, resetHeld := true, choices := s.choices }

/-- The link that a CFGSEL1:0 code selects (R178). -/
def linkOfCode (c : BitVec 2) : LinkId := ⟨c.toNat, c.isLt⟩

/-- The release of reset: the straps are taken; nothing else is changed (R180, R178, R179). -/
def releaseReset (cfgsel ratesel : BitVec 2) (s : State) : State :=
  { s with resetHeld := false, settingsLink := linkOfCode cfgsel, rateCode := ratesel }

end Sys2Proof.Machine
end

