-- ==== Sys2Proof/Machine/CardLink.lean ====
section
/-! DEFINITION. The card links (spec/09_card_links.md): execution of a request and its reply, the request slots, the
transmitter and its notices, the receive assembler, and what is taken before each command (log entry 2). -/

namespace Sys2Proof.Machine

/-! ## Executing a request (R150, R151, R160) -/

/-- A request of a known kind with a body of the wrong length is BAD FIELD; a LEVELS reply always carries its two
counts (R160, R163). -/
def badLengthFields (kind : Byte) : List Byte := if kind = 0x0A then [0, 0] else []

/-- What a request does, by what it asks (R160). -/
def perform (l : LinkId) (q : Request) (s : State) : Answer :=
  match q.ask with
  | .antUp a => doAntUp l a s
  | .antDown a => doAntDown l a s
  | .antDrain a => doAntDrain l a s
  | .antReopen a => doAntReopen l a s
  | .cardRestart => doCardRestart l s
  | .attach h a c set v => doAttach l h a c set v s
  | .detach h => doDetach h s
  | .levels a pairs => doLevels l a pairs s
  | .listen h set => doListen h set s
  | .key h k => doKey l h k s
  | .ready h => doReady l h s
  | .decline h => doDecline l h s
  | .arrived h a => doArrived l h a s
  | .stay h => doStay l h s
  | .queryHeadset h => doQueryHeadset h s
  | .queryAntenna a => doQueryAntenna a s
  | .queryClock => doQueryClock s
  | .set p v => doSet l p v s
  | .get p => doGet p s
  | .trim v => doTrim l v s
  | .clearFlags m => doClearFlags l m s
  | .badLength => { state := s, status := .badField, fields := badLengthFields q.kind }
  | .unknown => .refuse s .unknownKind

/-- The reply kind: the request kind plus 0x80, or 0xFF (R159). -/
def Request.replyKind (q : Request) : Byte := if q.ask = .unknown then 0xFF else q.kind + 0x80

/-- The body of a reply: the common part, then the kind's fields; the flags and the frame number as they stand at
execution (R151). -/
def replyBody (l : LinkId) (q : Request) (ans : Answer) : List Byte :=
  [q.replyKind, q.tag, ans.status.code, (ans.state.link l).flagsByte] ++ bytes16 ans.state.frameNumber ++ ans.fields

/-- A request is executed: it acts, and its reply is placed in the reply slot (R150, R151). -/
def execute (l : LinkId) (q : Request) (s : State) : State :=
  let ans := perform l q s
  ans.state.modLink l fun x => { x with reply := some (replyBody l q ans) }

/-- The oldest waiting request is executed when the reply slot is empty (R150). -/
def executeOldest (l : LinkId) (s : State) : State :=
  match (s.link l).reply, (s.link l).slots with
  | none, q :: rest => execute l q (s.modLink l fun x => { x with slots := rest })
  | _, _ => s

/-- A request received whole enters a free slot, and is executed in the same event while the reply slot is empty; with
both slots full it is discarded and OVERRUN is latched (R149, R150). -/
def submit (l : LinkId) (q : Request) (s : State) : State :=
  if (s.link l).slots.length < Config.requestSlots then
    executeOldest l (s.modLink l fun x => { x with slots := x.slots ++ [q] })
  else s.modLink l fun x => x.latch .overrun

/-! ## Notices (R115, R122, R61, R170, R168) -/

/-- The body of a PREPARE notice (R115, R170). -/
def prepareBody (s : State) (x : Entry) : List Byte :=
  match s.rec? x.headset, x.reserved with
  | some r, some (g, n) =>
    [0x40, 0] ++ bytes24 r.id ++ [byteOf x.target.val, byteOf g.val, byteOf n.val]
      ++ bytesOfNat16 (burstOf (((s.ant x.target).plan.get g).seat n)) ++ [byteOf r.profile.number]
      ++ bytes16 r.listen ++ [if r.key = .on then 0x01 else 0x00]
  | _, _ => []

/-- The body of a MOVE notice (R122, R170). -/
def moveBody (s : State) (x : Entry) : List Byte :=
  match s.rec? x.headset, x.reserved with
  | some r, some (g, n) =>
    [0x41, 0] ++ bytes24 r.id ++ [byteOf x.source.val, byteOf x.target.val, byteOf g.val, byteOf n.val]
      ++ bytes16 (x.switchFrame.getD 0) ++ [0]
  | _, _ => []

/-- The body of a FRAME PLAN notice (R61, R168). -/
def planBody (s : State) (a : AntennaId) : List Byte := [0x42, 0] ++ planFields s a

/-- The link that owns the serving antenna of an entry's headset (R122, R153). -/
def servingOwner (s : State) (x : Entry) : Option LinkId :=
  ((s.rec? x.headset).bind Record.serving).bind fun v => s.owner v.antenna

/-- The oldest entry whose PREPARE is due on a link (R153). -/
def prepareFor (s : State) (l : LinkId) : Option Entry :=
  s.handoffs.find? fun x => x.prepareDue && s.owner x.target == some l

/-- The oldest entry whose MOVE is due on a link (R153). -/
def moveFor (s : State) (l : LinkId) : Option Entry :=
  s.handoffs.find? fun x => x.moveDue && servingOwner s x == some l

/-- The antenna with the lowest ID whose plan is due on a link (R153). -/
def planFor (s : State) (l : LinkId) : Option AntennaId :=
  antennaOrder.find? fun a => (s.ant a).planDue && s.owner a == some l

/-! ## The transmitter (R152 to R154) -/

/-- A link's transmitter begins a message with a body (R152, R159). -/
def beginMessage (l : LinkId) (isReply : Bool) (body : List Byte) (s : State) : State :=
  s.modLink l fun x => { x with tx := some { isReply := isReply, chars := frameMessage body } }

/-- The choices of R153, in order of precedence. -/
inductive TxChoice where
  | reply (body : List Byte)
  | prepare (x : Entry)
  | move (x : Entry)
  | plan (a : AntennaId)
  deriving DecidableEq, Repr

/-- What an idle transmitter chooses; nothing when it is sending or has nothing to send (R152, R153). -/
def txChoice (l : LinkId) (s : State) : Option TxChoice :=
  match (s.link l).tx, (s.link l).reply, prepareFor s l, moveFor s l, planFor s l with
  | some _, _, _, _, _ => none
  | none, some body, _, _, _ => some (.reply body)
  | none, none, some x, _, _ => some (.prepare x)
  | none, none, none, some x, _ => some (.move x)
  | none, none, none, none, some a => some (.plan a)
  | none, none, none, none, none => none

/-- Begin the reply (R153). -/
def beginReply (l : LinkId) (body : List Byte) (s : State) : State := beginMessage l true body s

/-- Begin a PREPARE: its due flag is cleared and its content read (R154). -/
def beginPrepare (l : LinkId) (x : Entry) (s : State) : State :=
  (beginMessage l false (prepareBody s x) s).modEntry x.num fun y => { y with prepareDue := false }

/-- Begin a MOVE: its due flag is cleared and its content read (R154). -/
def beginMove (l : LinkId) (x : Entry) (s : State) : State :=
  (beginMessage l false (moveBody s x) s).modEntry x.num fun y => { y with moveDue := false }

/-- Begin a FRAME PLAN: its due flag is cleared and its content read (R154). -/
def beginPlan (l : LinkId) (a : AntennaId) (s : State) : State :=
  (beginMessage l false (planBody s a) s).modAnt a fun y => { y with planDue := false }

/-- The transmitter chooses, and begins what it chose (R152, R153). -/
def transmit (l : LinkId) (s : State) : State :=
  match txChoice l s with
  | none => s
  | some (.reply body) => beginReply l body s
  | some (.prepare x) => beginPrepare l x s
  | some (.move x) => beginMove l x s
  | some (.plan a) => beginPlan l a s

/-- Every idle transmitter with something to send begins it: what R152 has happen at once, after an event has been taken
whole. The links choose independently of one another. -/
def transmitAll (s : State) : State := linkOrder.foldl (fun s l => transmit l s) s

/-! ## What is taken before a command (log entry 2) -/

/-- The expiry that an expiry row names. -/
def expiryOf : Instr → Option Expiry
  | .serveLostExpiry i => some (.serveLost i)
  | .retainExpiry i => some (.retain i)
  | .candidateAgeExpiry i a => some (.candidateAge i a)
  | .prepareTimerExpiry e => some (.prepare e)
  | .moveTimerExpiry e => some (.move e)
  | .antUp .. | .antDown .. | .antDrain .. | .antReopen .. | .cardRestart .. | .attach .. | .detach .. | .levels ..
  | .listen .. | .keyOn .. | .keyOff .. | .ready .. | .decline .. | .arrived .. | .stay .. | .queryHeadset ..
  | .queryAntenna .. | .queryClock .. | .set .. | .setAirtimeParameter .. | .setHandoffDepth .. | .get .. | .trim ..
  | .clearFlags .. | .unknownKind .. | .requestReceived .. | .malformed .. | .badCharacter .. | .idleTimerExpiry ..
  | .lineBreak .. | .replyTransmission .. | .prepareNotice .. | .moveNotice .. | .framePlanNotice .. | .messageSent ..
  | .frameBoundary | .reset | .resetRelease .. | .goodCharacter .. | .fsyncPulseEnd => none

/-- The expiries that the waiting commands put after the event being taken: those whose row waits, no frame boundary and
no reset standing before it. A request and an expiry of one boundary may be taken in either order (R120, R123, R126,
R141), and the queue says which. -/
def laterExpiries : List Instr → List Expiry
  | [] => []
  | c :: rest => if c = .frameBoundary ∨ c = .reset then [] else (expiryOf c).toList ++ laterExpiries rest

/-- The expiries that the last boundary left due and that no waiting row puts after the event being taken. -/
def expiriesNow (s : State) : List Expiry := (dueExpiries s).filter fun x => !(laterExpiries s.pending).contains x

/-- The expiry taken next of those due: the only one, or the one that the free value names (R140, R141). -/
def nextExpiry (n : Nat) : List Expiry → Option Expiry
  | [] => none
  | [x] => some x
  | x :: rest => (x :: rest)[Config.expiryChoice n % (rest.length + 1)]?

/-- The expiries that `due` lists are taken one at a time, each transmitter choosing after each event, with a bound on
how many there can be. -/
def settleLoop (due : State → List Expiry) : Nat → State → State
  | 0, s => transmitAll s
  | n + 1, s =>
    let s := transmitAll s
    match nextExpiry s.choices (due s) with
    | none => s
    | some x =>
      settleLoop due n (takeExpiry x { s with choices := s.choices + if (due s).length ≤ 1 then 0 else 1 })

/-- What is taken before an event: the last boundary's expiries but those that the queue puts after it (R140), and the
messages that idle transmitters begin at once (R152). -/
def settle (s : State) : State := settleLoop expiriesNow (expiriesNow s).length s

/-- What is taken before the next frame boundary: every expiry of the last one (R140), and the messages that idle
transmitters begin at once (R152). -/
def settleAll (s : State) : State := settleLoop dueExpiries (dueExpiries s).length s

/-! ## The receive assembler (R145 to R149) -/

/-- The assembler discards what it has and hunts. -/
def Link.toHunt (x : Link) : Link := { x with asm := .hunt }

/-- A good character in LENGTH (R146). -/
def Link.takeLength (x : Link) (b : Byte) : Link :=
  if 2 ≤ b.toNat ∧ b.toNat ≤ 200 then { x with asm := .body b.toNat [] b } else (x.latch .malformed).toHunt

/-- A good character in BODY; after the Nth body byte the check byte is awaited (R145). -/
def Link.takeBody (x : Link) (n : Nat) (bytes : List Byte) (sum b : Byte) : Link :=
  if bytes.length + 1 < n then { x with asm := .body n (bytes ++ [b]) (sum + b) }
  else { x with asm := .check (bytes ++ [b]) (sum + b) }

/-- A good character in CHECK: the message is received whole when the sum is 0, else CHECK is latched (R148). -/
def takeCheck (l : LinkId) (bytes : List Byte) (sum b : Byte) (s : State) : State :=
  if sum + b = 0 then submit l (Request.ofBody bytes) (s.modLink l Link.toHunt)
  else s.modLink l fun x => (x.latch .check).toHunt

/-- A good character is taken in the state the assembler is in (R145). -/
def takeCharacter (l : LinkId) (b : Byte) (s : State) : State :=
  let s := s.modLink l fun x => { x with awaitHigh := false }
  match (s.link l).asm with
  | .hunt => if b = 0xC3 then s.modLink l fun x => { x with asm := .length } else s
  | .length => s.modLink l fun x => x.takeLength b
  | .body n bytes sum => s.modLink l fun x => x.takeBody n bytes sum b
  | .check bytes sum => takeCheck l bytes sum b s

/-- A bad character: its flag is latched in every state and the message in progress discarded; after a framing error the
receiver waits for RXD high (R144). -/
def Link.takeBad (x : Link) (e : CharError) : Link :=
  match e with
  | .parity => ({ x with awaitHigh := false }.latch .parity).toHunt
  | .framing => ({ x with awaitHigh := true }.latch .framing).toHunt

/-- The idle timer runs in LENGTH, BODY and CHECK (R147). -/
def Link.idleRunning (x : Link) : Bool := x.asm != .hunt

/-- 88 bit times of idle line in mid-message (R147). -/
def Link.idleExpiry (x : Link) : Link := if x.idleRunning then (x.latch .truncated).toHunt else x

/-- The restart of a link by a line break (R156). -/
def Link.restart (_x : Link) : Link :=
  { asm := .hunt, slots := [], reply := none, tx := none, flags := LinkFlag.break_.mask, awaitHigh := true }

/-- The end of a message on TXD: the transmitter is idle; if the message was the reply, the reply slot empties and a
waiting request is executed (R152, R150). -/
def endMessage (l : LinkId) (m : Message) (s : State) : State :=
  let s := s.modLink l fun x => { x with tx := none }
  if m.isReply then executeOldest l (s.modLink l fun x => { x with reply := none }) else s

end Sys2Proof.Machine
end

