-- ==== Sys2Proof/Machine/RequestCommands.lean ====
section
/-! DEFINITION. The meanings of the request rows of the opcode table: a card's request arrives whole on its link, enters
a request slot, and is executed at once while the reply slot is empty (R149, R150). -/

namespace Sys2Proof.Machine

/-- A command's effect: none while reset is held, since no request is received, no character is sampled and no boundary
occurs then (R180, R143, R158). -/
def whenRunning (s : State) (f : State → State) : Host.Outcome State Fault Refusal :=
  .next (if s.resetHeld then s else f s)

/-- A request arrives whole on a link (R149): what earlier events bring about is taken first (log entry 2). -/
def request (l : LinkId) (tag : Byte) (ask : Ask) (s : State) : Host.Outcome State Fault Refusal :=
  whenRunning s fun s => submit l (Request.make tag ask) (settle s)

/-! ## Antennas, ownership and draining -/

/-- ANT_UP (R24, R25, R164). -/
def execAntUp (l : LinkId) (tag antenna : Byte) (s : State) : Host.Outcome State Fault Refusal :=
  request l tag (.antUp antenna) s

/-- ANT_DOWN (R24, R26 to R31, R164). -/
def execAntDown (l : LinkId) (tag antenna : Byte) (s : State) : Host.Outcome State Fault Refusal :=
  request l tag (.antDown antenna) s

/-- ANT_DRAIN (R24, R33 to R36, R164). -/
def execAntDrain (l : LinkId) (tag antenna : Byte) (s : State) : Host.Outcome State Fault Refusal :=
  request l tag (.antDrain antenna) s

/-- ANT_REOPEN (R24, R37, R164). -/
def execAntReopen (l : LinkId) (tag antenna : Byte) (s : State) : Host.Outcome State Fault Refusal :=
  request l tag (.antReopen antenna) s

/-- CARD_RESTART (R38, R164). -/
def execCardRestart (l : LinkId) (tag : Byte) (s : State) : Host.Outcome State Fault Refusal :=
  request l tag .cardRestart s

/-! ## Roster -/

/-- ATTACH (R8 to R11, R165). -/
def execAttach (l : LinkId) (tag : Byte) (headset : HeadsetId) (antenna cls : Byte) (listen : ListenSet) (level : Byte)
    (s : State) : Host.Outcome State Fault Refusal :=
  request l tag (.attach headset antenna cls listen level) s

/-- DETACH (R12). -/
def execDetach (l : LinkId) (tag : Byte) (headset : HeadsetId) (s : State) : Host.Outcome State Fault Refusal :=
  request l tag (.detach headset) s

/-- LEVELS (R78 to R80). -/
def execLevels (l : LinkId) (tag antenna : Byte) (pairs : List (HeadsetId × Byte)) (s : State) :
    Host.Outcome State Fault Refusal :=
  request l tag (.levels antenna pairs) s

/-- LISTEN (R18). -/
def execListen (l : LinkId) (tag : Byte) (headset : HeadsetId) (listen : ListenSet) (s : State) :
    Host.Outcome State Fault Refusal :=
  request l tag (.listen headset listen) s

/-! ## Talk keys -/

/-- KEY_ON: the key field is 0x01 (R66 to R68, R166). -/
def execKeyOn (l : LinkId) (tag : Byte) (headset : HeadsetId) (s : State) : Host.Outcome State Fault Refusal :=
  request l tag (.key headset 0x01) s

/-- KEY_OFF: the key field is 0x00 (R66, R69, R166). -/
def execKeyOff (l : LinkId) (tag : Byte) (headset : HeadsetId) (s : State) : Host.Outcome State Fault Refusal :=
  request l tag (.key headset 0x00) s

/-! ## The handoff exchange -/

/-- READY (R117, R118). -/
def execReady (l : LinkId) (tag : Byte) (headset : HeadsetId) (s : State) : Host.Outcome State Fault Refusal :=
  request l tag (.ready headset) s

/-- DECLINE (R117, R119). -/
def execDecline (l : LinkId) (tag : Byte) (headset : HeadsetId) (s : State) : Host.Outcome State Fault Refusal :=
  request l tag (.decline headset) s

/-- ARRIVED (R124, R127). -/
def execArrived (l : LinkId) (tag : Byte) (headset : HeadsetId) (antenna : Byte) (s : State) :
    Host.Outcome State Fault Refusal :=
  request l tag (.arrived headset antenna) s

/-- STAY (R125). -/
def execStay (l : LinkId) (tag : Byte) (headset : HeadsetId) (s : State) : Host.Outcome State Fault Refusal :=
  request l tag (.stay headset) s

/-! ## Queries -/

/-- QUERY_HEADSET (R19, R167). -/
def execQueryHeadset (l : LinkId) (tag : Byte) (headset : HeadsetId) (s : State) : Host.Outcome State Fault Refusal :=
  request l tag (.queryHeadset headset) s

/-- QUERY_ANTENNA (R39, R168). -/
def execQueryAntenna (l : LinkId) (tag antenna : Byte) (s : State) : Host.Outcome State Fault Refusal :=
  request l tag (.queryAntenna antenna) s

/-- QUERY_CLOCK (R142, R169). -/
def execQueryClock (l : LinkId) (tag : Byte) (s : State) : Host.Outcome State Fault Refusal :=
  request l tag .queryClock s

/-! ## Settings -/

/-- SET (R175, R171). -/
def execSet (l : LinkId) (tag param : Byte) (value : BitVec 16) (s : State) : Host.Outcome State Fault Refusal :=
  request l tag (.set param value) s

/-- The parameter number of BEACON, GUARD and RESERVE (R173). -/
def airtimeNumber : AirtimeParam → Byte
  | .beacon => 12
  | .guardTime => 13
  | .reserve => 14

/-- SET_AIRTIME_PARAMETER (R175, R176, R63). -/
def execSetAirtimeParameter (l : LinkId) (tag : Byte) (param : AirtimeParam) (value : BitVec 16) (s : State) :
    Host.Outcome State Fault Refusal :=
  request l tag (.set (airtimeNumber param) value) s

/-- SET_HANDOFF_DEPTH (R175, R177): parameter 11. -/
def execSetHandoffDepth (l : LinkId) (tag : Byte) (value : BitVec 16) (s : State) :
    Host.Outcome State Fault Refusal :=
  request l tag (.set 11 value) s

/-- GET (R174, R171). -/
def execGet (l : LinkId) (tag param : Byte) (s : State) : Host.Outcome State Fault Refusal :=
  request l tag (.get param) s

/-- TRIM (R137, R171). -/
def execTrim (l : LinkId) (tag : Byte) (value : BitVec 16) (s : State) : Host.Outcome State Fault Refusal :=
  request l tag (.trim value) s

/-- CLEAR_FLAGS (R155, R172). -/
def execClearFlags (l : LinkId) (tag mask : Byte) (s : State) : Host.Outcome State Fault Refusal :=
  request l tag (.clearFlags mask) s

/-- UNKNOWN_KIND: a body of a kind byte and a tag (R160); a kind byte that does name a request kind is judged as that
kind's body of two bytes. -/
def execUnknownKind (l : LinkId) (kind tag : Byte) (s : State) : Host.Outcome State Fault Refusal :=
  whenRunning s fun s => submit l (Request.ofBody [kind, tag]) (settle s)

end Sys2Proof.Machine
end

