-- ==== Sys2Proof/Machine/LineCommands.lean ====
section
/-! DEFINITION. The meanings of the line rows of the opcode table: characters, the idle timer, the line break, and what
the transmitter begins and ends (spec/09_card_links.md). -/

namespace Sys2Proof.Machine

/-! ## Reception -/

/-- REQUEST_RECEIVED: the check byte arrives (R148, R149, R150). In another assembler state the character is taken as
R145 gives. -/
def execRequestReceived (l : LinkId) (check : Byte) (s : State) : Host.Outcome State Fault Refusal :=
  whenRunning s fun s => takeCharacter l check (settle s)

/-- MALFORMED: a length byte outside 2 to 200 arrives (R146). In another assembler state, or with a length byte in
range, the character is taken as R145 gives. -/
def execMalformed (l : LinkId) (length : Byte) (s : State) : Host.Outcome State Fault Refusal :=
  whenRunning s fun s => takeCharacter l length (settle s)

/-- GOOD_CHARACTER (R145). -/
def execGoodCharacter (l : LinkId) (char : Byte) (s : State) : Host.Outcome State Fault Refusal :=
  whenRunning s fun s => takeCharacter l char (settle s)

/-- BAD_CHARACTER (R144). -/
def execBadCharacter (l : LinkId) (error : CharError) (s : State) : Host.Outcome State Fault Refusal :=
  whenRunning s fun s => s.modLink l fun x => x.takeBad error

/-- IDLE_TIMER_EXPIRY (R147); the timer does not run in HUNT. -/
def execIdleTimerExpiry (l : LinkId) (s : State) : Host.Outcome State Fault Refusal :=
  whenRunning s fun s => s.modLink l Link.idleExpiry

/-- LINE_BREAK (R156). -/
def execLineBreak (l : LinkId) (s : State) : Host.Outcome State Fault Refusal :=
  whenRunning s fun s => (settle s).modLink l Link.restart

/-! ## Transmission -/

/-- REPLY_TRANSMISSION: an idle transmitter with a reply in the reply slot begins it (R153). -/
def execReplyTransmission (l : LinkId) (s : State) : Host.Outcome State Fault Refusal :=
  whenRunning s fun s => match txChoice l s with
    | some (.reply body) => beginReply l body s
    | _ => s

/-- PREPARE_NOTICE: an idle transmitter whose choice by R153 is a PREPARE begins it (R115, R154). -/
def execPrepareNotice (l : LinkId) (s : State) : Host.Outcome State Fault Refusal :=
  whenRunning s fun s => match txChoice l s with
    | some (.prepare x) => beginPrepare l x s
    | _ => s

/-- MOVE_NOTICE: an idle transmitter whose choice by R153 is a MOVE begins it (R122, R154). -/
def execMoveNotice (l : LinkId) (s : State) : Host.Outcome State Fault Refusal :=
  whenRunning s fun s => match txChoice l s with
    | some (.move x) => beginMove l x s
    | _ => s

/-- FRAME_PLAN_NOTICE: an idle transmitter whose choice by R153 is a FRAME PLAN begins it (R61, R154). -/
def execFramePlanNotice (l : LinkId) (s : State) : Host.Outcome State Fault Refusal :=
  whenRunning s fun s => match txChoice l s with
    | some (.plan a) => beginPlan l a s
    | _ => s

/-- MESSAGE_SENT: the message being sent ends, a waiting request is executed, and the transmitter chooses again (R152,
R150). An idle transmitter ends no message. -/
def execMessageSent (l : LinkId) (s : State) : Host.Outcome State Fault Refusal :=
  whenRunning s fun s =>
    let s := settle s
    match (s.link l).tx with
    | none => s
    | some m => transmit l (endMessage l m s)

end Sys2Proof.Machine
end

