-- ==== Sys2Proof/Machine/TimeCommands.lean ====
section
/-! DEFINITION. The meanings of the timebase rows of the opcode table: the frame boundary, the timer expiries, FSYNC,
reset and its release (spec/08_frame_timebase.md, section 11.6). -/

namespace Sys2Proof.Machine

/-- FRAME_BOUNDARY: what the last boundary left due is taken, then the timebase advances and every running timer takes the
boundary (R135, R138, R139, R140). -/
def execFrameBoundary (s : State) : Host.Outcome State Fault Refusal :=
  whenRunning s fun s => countTimers (advanceClock (settleAll s))

/-- SERVE_LOST_EXPIRY (R14): the timer takes the boundary that left it due (R140). -/
def execServeLostExpiry (i : RosterIx) (s : State) : Host.Outcome State Fault Refusal :=
  whenRunning s fun s => takeServeLost i (transmitAll s)

/-- RETAIN_EXPIRY (R15): the timer takes the boundary that left it due (R140). -/
def execRetainExpiry (i : RosterIx) (s : State) : Host.Outcome State Fault Refusal :=
  whenRunning s fun s => takeRetain i (transmitAll s)

/-- CANDIDATE_AGE_EXPIRY (R93): the timer takes the boundary that left it due (R140). -/
def execCandidateAgeExpiry (i : RosterIx) (a : AntennaId) (s : State) : Host.Outcome State Fault Refusal :=
  whenRunning s fun s => takeCandidateAge i a (transmitAll s)

/-- PREPARE_TIMER_EXPIRY (R116): the timer takes the boundary that left it due (R140). -/
def execPrepareTimerExpiry (e : EntryNo) (s : State) : Host.Outcome State Fault Refusal :=
  whenRunning s fun s => takePrepare e (transmitAll s)

/-- MOVE_TIMER_EXPIRY (R123): the timer takes the boundary that left it due (R140). -/
def execMoveTimerExpiry (e : EntryNo) (s : State) : Host.Outcome State Fault Refusal :=
  whenRunning s fun s => takeMove e (transmitAll s)

/-- RESET (R180): acts at once, in the middle of any operation. -/
def execReset (s : State) : Host.Outcome State Fault Refusal := .next (holdReset s)

/-- RESET_RELEASE (R180): the straps are taken (R178, R179). While no reset is held there is no release, and a change of
the strap levels has no effect. -/
def execResetRelease (cfgsel ratesel : BitVec 2) (s : State) : Host.Outcome State Fault Refusal :=
  .next (if s.resetHeld then releaseReset cfgsel ratesel s else s)

/-- FSYNC_PULSE_END (R139): FSYNC returns low. -/
def execFsyncPulseEnd (s : State) : Host.Outcome State Fault Refusal :=
  whenRunning s fun s => { s with fsync := false }

end Sys2Proof.Machine
end

