-- ==== Sys2Proof/Machine/Dispatch.lean ====
section
/-! DEFINITION. exec: each command's meaning, one arm a row of spec/opcode_table.json. -/

namespace Sys2Proof.Machine

def exec (i : Instr) (s : State) : Host.Outcome State Fault Refusal :=
  match i with
  | .antUp l tag a => Sys2Proof.Machine.execAntUp l tag a s
  | .antDown l tag a => Sys2Proof.Machine.execAntDown l tag a s
  | .antDrain l tag a => Sys2Proof.Machine.execAntDrain l tag a s
  | .antReopen l tag a => Sys2Proof.Machine.execAntReopen l tag a s
  | .cardRestart l tag => Sys2Proof.Machine.execCardRestart l tag s
  | .attach l tag h a c set v => Sys2Proof.Machine.execAttach l tag h a c set v s
  | .detach l tag h => Sys2Proof.Machine.execDetach l tag h s
  | .levels l tag a pairs => Sys2Proof.Machine.execLevels l tag a pairs s
  | .listen l tag h set => Sys2Proof.Machine.execListen l tag h set s
  | .keyOn l tag h => Sys2Proof.Machine.execKeyOn l tag h s
  | .keyOff l tag h => Sys2Proof.Machine.execKeyOff l tag h s
  | .ready l tag h => Sys2Proof.Machine.execReady l tag h s
  | .decline l tag h => Sys2Proof.Machine.execDecline l tag h s
  | .arrived l tag h a => Sys2Proof.Machine.execArrived l tag h a s
  | .stay l tag h => Sys2Proof.Machine.execStay l tag h s
  | .queryHeadset l tag h => Sys2Proof.Machine.execQueryHeadset l tag h s
  | .queryAntenna l tag a => Sys2Proof.Machine.execQueryAntenna l tag a s
  | .queryClock l tag => Sys2Proof.Machine.execQueryClock l tag s
  | .set l tag p v => Sys2Proof.Machine.execSet l tag p v s
  | .setAirtimeParameter l tag p v => Sys2Proof.Machine.execSetAirtimeParameter l tag p v s
  | .setHandoffDepth l tag v => Sys2Proof.Machine.execSetHandoffDepth l tag v s
  | .get l tag p => Sys2Proof.Machine.execGet l tag p s
  | .trim l tag v => Sys2Proof.Machine.execTrim l tag v s
  | .clearFlags l tag m => Sys2Proof.Machine.execClearFlags l tag m s
  | .unknownKind l kind tag => Sys2Proof.Machine.execUnknownKind l kind tag s
  | .requestReceived l b => Sys2Proof.Machine.execRequestReceived l b s
  | .malformed l b => Sys2Proof.Machine.execMalformed l b s
  | .badCharacter l e => Sys2Proof.Machine.execBadCharacter l e s
  | .idleTimerExpiry l => Sys2Proof.Machine.execIdleTimerExpiry l s
  | .lineBreak l => Sys2Proof.Machine.execLineBreak l s
  | .replyTransmission l => Sys2Proof.Machine.execReplyTransmission l s
  | .prepareNotice l => Sys2Proof.Machine.execPrepareNotice l s
  | .moveNotice l => Sys2Proof.Machine.execMoveNotice l s
  | .framePlanNotice l => Sys2Proof.Machine.execFramePlanNotice l s
  | .messageSent l => Sys2Proof.Machine.execMessageSent l s
  | .frameBoundary => Sys2Proof.Machine.execFrameBoundary s
  | .serveLostExpiry j => Sys2Proof.Machine.execServeLostExpiry j s
  | .retainExpiry j => Sys2Proof.Machine.execRetainExpiry j s
  | .candidateAgeExpiry j a => Sys2Proof.Machine.execCandidateAgeExpiry j a s
  | .prepareTimerExpiry e => Sys2Proof.Machine.execPrepareTimerExpiry e s
  | .moveTimerExpiry e => Sys2Proof.Machine.execMoveTimerExpiry e s
  | .reset => Sys2Proof.Machine.execReset s
  | .resetRelease c r => Sys2Proof.Machine.execResetRelease c r s
  | .goodCharacter l b => Sys2Proof.Machine.execGoodCharacter l b s
  | .fsyncPulseEnd => Sys2Proof.Machine.execFsyncPulseEnd s

end Sys2Proof.Machine
end

