-- ==== Sys2Proof/Safety.lean ====
section
/-! DEFINITION. The terms in which the statements are made: when the part can execute a request at once, the reply a
request leaves, the request a command carries and the link it comes on, the records, antennas and states that the
manual gives as results, and the invariants that every step keeps. -/

namespace Sys2Proof.Machine

/-! ## When a command meets the part at rest -/

/-- No expiry of the last boundary is still to be taken (R140). -/
abbrev NoExpiryDue (s : State) : Prop := dueExpiries s = []

/-- No idle transmitter has anything to send (R152). -/
abbrev TransmittersSettled (s : State) : Prop := ∀ l, txChoice l s = none

/-- What earlier events bring about has been taken, but for the expiries that the waiting commands put later (log entry
2). -/
abbrev Quiet (s : State) : Prop := expiriesNow s = [] ∧ TransmittersSettled s

/-- Reset is not held, what earlier events bring about has been taken, and the link has no request waiting and no reply
to send: a request that arrives now is executed at once (R150). -/
abbrev Ready (l : LinkId) (s : State) : Prop :=
  s.resetHeld = false ∧ Quiet s ∧ (s.link l).slots = [] ∧ (s.link l).reply = none

/-- The state with the reply of a request of some kind in the link's reply slot: kind plus 0x80, the request's tag, the
status, the link's flags, the frame number, then the kind's fields (R151, R159, R163). -/
def State.replied (s : State) (l : LinkId) (kind tag : Byte) (status : Status) (fields : List Byte) : State :=
  s.modLink l fun x =>
    { x with reply := some ([kind + 0x80, tag, status.code, x.flagsByte] ++ bytes16 s.frameNumber ++ fields) }

/-! ## What a command carries -/

/-- The link and the request of a request row (R159, R161); nothing for the other rows. -/
def requestOf : Instr → Option (LinkId × Request)
  | .antUp l t a => some (l, .make t (.antUp a))
  | .antDown l t a => some (l, .make t (.antDown a))
  | .antDrain l t a => some (l, .make t (.antDrain a))
  | .antReopen l t a => some (l, .make t (.antReopen a))
  | .cardRestart l t => some (l, .make t .cardRestart)
  | .attach l t h a c set v => some (l, .make t (.attach h a c set v))
  | .detach l t h => some (l, .make t (.detach h))
  | .levels l t a ps => some (l, .make t (.levels a ps))
  | .listen l t h set => some (l, .make t (.listen h set))
  | .keyOn l t h => some (l, .make t (.key h 0x01))
  | .keyOff l t h => some (l, .make t (.key h 0x00))
  | .ready l t h => some (l, .make t (.ready h))
  | .decline l t h => some (l, .make t (.decline h))
  | .arrived l t h a => some (l, .make t (.arrived h a))
  | .stay l t h => some (l, .make t (.stay h))
  | .queryHeadset l t h => some (l, .make t (.queryHeadset h))
  | .queryAntenna l t a => some (l, .make t (.queryAntenna a))
  | .queryClock l t => some (l, .make t .queryClock)
  | .set l t p v => some (l, .make t (.set p v))
  | .setAirtimeParameter l t .beacon v => some (l, .make t (.set 12 v))
  | .setAirtimeParameter l t .guardTime v => some (l, .make t (.set 13 v))
  | .setAirtimeParameter l t .reserve v => some (l, .make t (.set 14 v))
  | .setHandoffDepth l t v => some (l, .make t (.set 11 v))
  | .get l t p => some (l, .make t (.get p))
  | .trim l t v => some (l, .make t (.trim v))
  | .clearFlags l t m => some (l, .make t (.clearFlags m))
  | .unknownKind l k t => some (l, .ofBody [k, t])
  | .requestReceived .. | .malformed .. | .badCharacter .. | .idleTimerExpiry .. | .lineBreak .. | .replyTransmission ..
  | .prepareNotice .. | .moveNotice .. | .framePlanNotice .. | .messageSent .. | .frameBoundary | .serveLostExpiry ..
  | .retainExpiry .. | .candidateAgeExpiry .. | .prepareTimerExpiry .. | .moveTimerExpiry .. | .reset | .resetRelease ..
  | .goodCharacter .. | .fsyncPulseEnd => none

/-- The body length that the table of section 10.1 gives a request kind; for LEVELS without its pairs. -/
def kindLength (kind : Byte) : Nat :=
  match kind.toNat with
  | 0x05 | 0x1A => 2
  | 0x01 | 0x02 | 0x03 | 0x04 | 0x19 | 0x21 | 0x23 => 3
  | 0x0A | 0x22 => 4
  | 0x09 | 0x10 | 0x11 | 0x13 | 0x18 | 0x20 => 5
  | 0x0C | 0x12 => 6
  | 0x0B => 7
  | 0x08 => 10
  | _ => 0

/-- A body of a request kind has the length that its kind requires; that of LEVELS is 4 and 4 for each pair that its byte 3
counts (R160, the length stage). -/
def lengthFits (body : List Byte) : Bool :=
  match body with
  | [] => false
  | kind :: rest =>
    if kind = 0x0A then
      match rest with
      | _ :: _ :: count :: _ => body.length == 4 + 4 * count.toNat
      | _ => false
    else body.length == kindLength kind

/-- The link a command happens on, for the rows that name one. -/
def linkOf : Instr → Option LinkId
  | .antUp l _ _ | .antDown l _ _ | .antDrain l _ _ | .antReopen l _ _ | .cardRestart l _ | .attach l _ _ _ _ _ _
  | .detach l _ _ | .levels l _ _ _ | .listen l _ _ _ | .keyOn l _ _ | .keyOff l _ _ | .ready l _ _ | .decline l _ _
  | .arrived l _ _ _ | .stay l _ _ | .queryHeadset l _ _ | .queryAntenna l _ _ | .queryClock l _ | .set l _ _ _
  | .setAirtimeParameter l _ _ _ | .setHandoffDepth l _ _ | .get l _ _ | .trim l _ _ | .clearFlags l _ _
  | .unknownKind l _ _ | .requestReceived l _ | .malformed l _ | .badCharacter l _ | .idleTimerExpiry l | .lineBreak l
  | .replyTransmission l | .prepareNotice l | .moveNotice l | .framePlanNotice l | .messageSent l
  | .goodCharacter l _ => some l
  | .frameBoundary | .serveLostExpiry _ | .retainExpiry _ | .candidateAgeExpiry _ _ | .prepareTimerExpiry _
  | .moveTimerExpiry _ | .reset | .resetRelease _ _ | .fsyncPulseEnd => none

/-- The commands that a request row or the end of a message or a character can carry through to the execution of a
request. -/
def canExecute : Instr → Bool
  | .requestReceived .. | .malformed .. | .goodCharacter .. | .messageSent .. => true
  | c => (requestOf c).isSome

/-- Run some commands one after another; the first that does not answer a next state ends the run. -/
def runCommands : List Instr → State → Host.Outcome State Fault Refusal
  | [], s => .next s
  | c :: rest, s =>
    match exec c s with
    | .next t => runCommands rest t
    | .fault f => .fault f
    | .refused r => .refused r

/-! ## Results that the manual gives -/

/-- The antenna with another plan: its airtime recomputed and its plan marked due (R43, R60). -/
def Antenna.withPlan (p : Params) (plan : Vector Group 16) (x : Antenna) : Antenna :=
  { x with plan := plan, airtime := airtimeOf p plan, planDue := true }

/-- The antenna with a seat written for a headset with a listen set (R48). -/
def Antenna.occupied (p : Params) (g : GroupIx) (n : SeatNo) (seat : Seat) (listen : ListenSet) (x : Antenna) :
    Antenna :=
  { x.withPlan p (putSeat x.plan g n (some seat)) with carriage := raiseCarriage x.carriage listen }

/-- The antenna with a seat removed, the headset's listen set no longer counted (R53, steps 1 to 4), and CLOSED where it
was DRAINING and now holds no seat (R36). -/
def Antenna.vacated (p : Params) (g : GroupIx) (n : SeatNo) (listen : ListenSet) (x : Antenna) : Antenna :=
  { x.withPlan p (putSeat x.plan g n none) with
    carriage := lowerCarriage x.carriage listen
    state := if x.state = .draining ∧ planEmpty (putSeat x.plan g n none) = true then .closed else x.state }

/-- The record after entry into ADRIFT (R13). -/
def Record.lost (r : Record) : Record :=
  { r with
    key := if r.key = .on ∨ r.key = .waiting then .pending else r.key
    state := .adrift, serving := none, serveLost := none, weak := false, retain := some Timer.start }

/-- The record after an abort that returns it to SETTLED, the target's blocked flags cleared by the released seat (R130,
R55). -/
def Record.returned (t : AntennaId) (r : Record) : Record :=
  { r with
    state := .settled, handoff := none, serveLost := some Timer.start
    candidates := r.candidates.map fun c =>
      if c.antenna = t then { c with blocked := false, dwell := 0, age := some Timer.start } else c }

/-- The state after the abort with return of a started entry x of record i, r, served at v, with its reserved seat at
group g, seat n, where nothing waits at the target (R130, R131). -/
def State.aborted (s : State) (x : Entry) (i : RosterIx) (r : Record) (v : Serving) (g : GroupIx) (n : SeatNo) :
    State :=
  let t := s.modAnt x.target (Antenna.vacated s.params g n r.listen)
  let t := if x.phase = .moving then t.markDue v.antenna else t
  { clearBlocked x.target t with handoffs := s.handoffs.filter fun y => y.num != x.num }.setRec i
    (some (r.returned x.target))

/-- The candidate list after completion toward t from an antenna a that is ACTIVE or not, when the last F16S was f (R127,
steps 3 to 5; R128). -/
def completedList (t a : AntennaId) (active : Bool) (f : Nat) (l : List Candidate) : List Candidate :=
  let rest := (l.filter fun c => c.antenna != t).map fun c =>
    if c.antenna = a then { c with dwell := 0, blocked := false } else { c with dwell := 0 }
  if active && !rest.any (fun c => c.antenna == a) then
    placeCandidate { antenna := a, f16 := f, dwell := 0, age := some Timer.start, blocked := false } rest
  else rest

/-- The record after completion at t, group g, seat n, with the target candidate's level f (R127). -/
def Record.completed (t a : AntennaId) (active : Bool) (g : GroupIx) (n : SeatNo) (f : Nat) (r : Record) : Record :=
  { r with
    state := .settled, serving := some { antenna := t, group := g, seat := n }, f16s := f, weak := false
    candidates := completedList t a active r.f16s r.candidates
    serveLost := some Timer.start, retain := none, handoff := none }

/-- The state after completion of entry x of record i, r, served until now at v, its reserved seat at group g, seat n
carrying the burst its key calls for, the target candidate's level being f, where nothing waits at the source (R127). -/
def State.completed (s : State) (x : Entry) (i : RosterIx) (r : Record) (v : Serving) (g : GroupIx) (n : SeatNo)
    (seat : Seat) (f : Nat) : State :=
  let t := s.modAnt v.antenna (Antenna.vacated s.params v.group v.seat r.listen)
  let t := t.modAnt x.target fun y => y.withPlan s.params (putSeat y.plan g n (some { seat with kind := .serving }))
  { clearBlocked v.antenna t with handoffs := s.handoffs.filter fun y => y.num != x.num }.setRec i
    (some (r.completed x.target v.antenna ((s.ant v.antenna).state == AntennaState.active) g n f))

/-- The state after a seat is released (R53): the seat leaves its group and the airtime follows, the carriage is lowered,
the plan is due, the room-made effects are taken, and a DRAINING antenna that now holds no seat is CLOSED (R36). -/
def State.seatReleased (s : State) (a : AntennaId) (g : GroupIx) (n : SeatNo) (listen : ListenSet) : State :=
  (roomMade a (s.modAnt a fun x =>
    { x.withPlan s.params (putSeat x.plan g n none) with carriage := lowerCarriage x.carriage listen })).modAnt a fun x =>
      if x.state = .draining ∧ planEmpty x.plan = true then { x with state := .closed, planDue := true } else x

/-- The state after a fresh KEY on of the SETTLED record i, r at its serving antenna a (R67, R74): ON where the
re-placement succeeds, with the room-made effects where the seat left its group; else WAITING at the tail of the queue
while that holds fewer than four; else OFF. -/
def State.pressed (s : State) (i : RosterIx) (r : Record) (a : AntennaId) : State :=
  match rePlace? s i with
  | some (t, moved) => if moved then roomMade a t else t
  | none =>
    if (s.ant a).queue.length < 4 then
      (s.modAnt a fun x => { x with queue := x.queue ++ [i] }).setRec i (some { r with key := .waiting })
    else s.setRec i (some { r with key := .off })

/-- The PENDING key of a served record that has become SETTLED is applied as a fresh KEY on; another key is left (R74). -/
def State.keyApplied (s : State) (i : RosterIx) : State :=
  match s.rec? i with
  | none => s
  | some r =>
    match r.key, r.serving with
    | .pending, some v => s.pressed i r v.antenna
    | _, _ => s

/-- The record after steps 2 and 4 of the abort of its entry (R130): the target's dwell is 0, a target candidate becomes
an ordinary entry with its age timer at 0, the reference is cleared. -/
def Record.unlinked (x : Entry) (r : Record) : Record :=
  { r with
    handoff := none
    candidates := r.candidates.map fun c =>
      if c.antenna = x.target then { c with dwell := 0, age := if x.phase = .queued then c.age else some Timer.start }
      else c }

/-- The state after an abort without return (R5, R130 steps 1 to 4): a reserved seat is released, or dropped where the
target goes DOWN (R26). -/
def State.torn (s : State) (x : Entry) (drop : Bool) : State :=
  let t := match x.reserved, s.rec? x.headset with
    | some (g, n), some r => if drop then s else s.seatReleased x.target g n r.listen
    | _, _ => s
  { t with handoffs := t.handoffs.filter fun y => y.num != x.num }.modRec x.headset (Record.unlinked x)

/-- The state after an abort with return (R130, R131): a headset with a serving seat is SETTLED, its serve-lost timer at
0, its serving antenna's plan due after MOVING and a PENDING key applied; one without stays ADRIFT. -/
def State.recalled (s : State) (x : Entry) (drop : Bool) : State :=
  let t := s.torn x drop
  match (t.rec? x.headset).bind Record.serving with
  | none => t
  | some v =>
    let u := t.modRec x.headset fun r => { r with state := .settled, serveLost := some Timer.start }
    (if x.phase = .moving then u.markDue v.antenna else u).keyApplied x.headset

/-- The state after a WAITING headset has left the key wait queue of its serving antenna, the others keeping their order
(R71); for another key state nothing changes. -/
def State.queueLeft (s : State) (i : RosterIx) (r : Record) : State :=
  match r.key, r.serving with
  | .waiting, some v => s.modAnt v.antenna fun x => { x with queue := x.queue.filter fun j => j != i }
  | _, _ => s

/-- The state after a headset whose seat is dropped goes ADRIFT (R13, R26): a WAITING one leaves its queue. -/
def State.gone (s : State) (i : RosterIx) : State :=
  match s.rec? i with
  | none => s
  | some r => (s.queueLeft i r).setRec i (some r.lost)

/-- The state after a seat that carries the talk burst is lowered to the listen burst in its place (R52): the airtime
follows, the plan is due, and the room-made effects are taken (R55). -/
def State.burstLowered (s : State) (a : AntennaId) (g : GroupIx) (n : SeatNo) (p : Profile) : State :=
  roomMade a (s.modAnt a fun x => x.withPlan s.params (putSeat x.plan g n (((x.plan.get g).seat n).map fun y =>
    if y.burst = p.talkBurst then { y with burst := p.listenBurst } else y)))

/-- The seat at a place of an antenna's plan carries the talk burst of a profile. -/
def State.keyedSeat (s : State) (a : AntennaId) (g : GroupIx) (n : SeatNo) (p : Profile) : Bool :=
  (((s.ant a).plan.get g).seat n).any fun y => y.burst == p.talkBurst

/-- The state after the reserved seat of a headset becomes its serving seat (R54): in place, and lowered where it carries
the talk burst while the key is not ON. -/
def State.converted (s : State) (a : AntennaId) (g : GroupIx) (n : SeatNo) (r : Record) : State :=
  let t := s.modAnt a fun x => x.withPlan s.params (putSeat x.plan g n (((x.plan.get g).seat n).map fun y =>
    { y with kind := .serving }))
  if r.key ≠ .on ∧ s.keyedSeat a g n r.profile = true then t.burstLowered a g n r.profile else t

/-- The state after entry x of record r starts with its reserved seat placed at p (R110, step 3): the seat is taken at the
headset's current burst, the entry is PREPARING with its PREPARE due and its prepare timer at 0, and the candidate entry
of the target is held with its age timer stopped (R95). -/
def State.started (s : State) (x : Entry) (r : Record) (p : Placement) : State :=
  ({ s.modAnt x.target (Antenna.occupied s.params p.group p.seat
      { headset := x.headset, kind := .reserved, burst := r.currentBurst } r.listen) with
    handoffs := s.handoffs.map fun y =>
      if y.num = x.num then
        { y with phase := .preparing, reserved := some (p.group, p.seat), prepareDue := true
                 prepTimer := some Timer.start }
      else y } : State).setRec x.headset
    (some { r with candidates := r.candidates.map fun c => if c.antenna = x.target then { c with age := none } else c })

/-- The state after the start of entry x of record r fails (R110, step 4): with blocking the target's candidate entry is
blocked at dwell 0 (R103); the entry is freed, the record is SETTLED with its serve-lost timer as it stands, and a PENDING
key is applied (R74). -/
def State.startFailed (s : State) (x : Entry) (r : Record) (blocking : Bool) : State :=
  (({ s with handoffs := s.handoffs.filter fun y => y.num != x.num } : State).setRec x.headset (some
    { r with
      state := .settled, handoff := none
      candidates :=
        if blocking then
          r.candidates.map fun c => if c.antenna = x.target then { c with blocked := true, dwell := 0 } else c
        else r.candidates })).keyApplied x.headset

/-- The antenna that a record's entry has reserved a seat at, the target candidate's (R95). -/
def State.heldTarget (s : State) (r : Record) : Option AntennaId :=
  match s.entryOf? r with
  | none => none
  | some x => if x.phase = .queued then none else some x.target

/-- The link whose depth the end of a record's entry lowers: the owner of the target of a started entry (R109). -/
def State.loweredLink (s : State) (r : Record) : Option LinkId :=
  match s.heldTarget r with
  | none => none
  | some a => s.owner a

/-- The record is served at a DRAINING antenna, so that it is judged under drain terms (R99). -/
def State.underDrain (s : State) (r : Record) : Bool :=
  match r.serving with
  | none => false
  | some v => decide ((s.ant v.antenna).state = .draining)

/-- The level test of a candidate at F16 f against the serving level f16s, under drain, WEAK or normal terms (R99, R100). -/
def levelSuits (p : Params) (drain weak : Bool) (f16s f : Nat) : Bool :=
  if drain then decide (p.lossLevel * 16 ≤ f)
  else if weak then decide (f16s ≤ f ∧ p.lossLevel * 16 ≤ f)
  else decide (f16s + p.margin * 16 ≤ f)

/-! ## Invariants -/

/-- The ranges of the timebase's state (R135). -/
abbrev ClockInRange (s : State) : Prop :=
  -2048 ≤ s.trim ∧ s.trim ≤ 2047 ∧ 0 ≤ s.acc ∧ s.acc < 8388608 ∧ 159960 ≤ s.frameLength ∧ s.frameLength ≤ 160040

/-- Every stored parameter lies in its range (R173). -/
def ParamsInRange (s : State) : Prop := ∀ q : Param, q.low ≤ s.params.read q ∧ s.params.read q ≤ q.high

/-- A link holds at most two waiting requests, and none waits while no reply is held (R150). -/
abbrev LinksInOrder (s : State) : Prop :=
  ∀ l, (s.link l).slots.length ≤ 2 ∧ ((s.link l).reply = none → (s.link l).slots = [])

/-- At every antenna that is not DOWN the airtime used is BEACON plus each non-empty group's time and GUARD, and does
not exceed the limit (R44). -/
abbrev AirtimeHolds (s : State) : Prop :=
  ∀ a, (s.ant a).state ≠ .down →
    (s.ant a).airtime = airtimeOf s.params (s.ant a).plan ∧ (s.ant a).airtime ≤ 10000 - s.params.reserve

/-- Every running timer's count lies below the highest value of its parameter (R140, R173): a serve-lost count within 0 to
254 and a retain count within 0 to 65534 (R167). -/
def CountsInRange (s : State) : Prop :=
  (∀ i r, s.rec? i = some r → (∀ t, r.serveLost = some t → t.count ≤ 254) ∧ (∀ t, r.retain = some t → t.count ≤ 65534) ∧
    ∀ c ∈ r.candidates, ∀ t, c.age = some t → t.count ≤ 254) ∧
  ∀ x ∈ s.handoffs, (∀ t, x.prepTimer = some t → t.count ≤ 254) ∧ ∀ t, x.moveTimer = some t → t.count ≤ 254

/-- The handoff table holds at most 16 entries, no two with the same number (R106). -/
abbrev TableInOrder (s : State) : Prop := s.handoffs.length ≤ 16 ∧ (s.handoffs.map Entry.num).Nodup

/-- Every key wait queue holds at most four headsets (R70). -/
abbrev QueuesInOrder (s : State) : Prop := ∀ a, (s.ant a).queue.length ≤ 4

/-- Every filtered level lies within 0 to 4080 and every dwell within 0 to 255 (R81, R87). -/
def LevelsInRange (s : State) : Prop :=
  ∀ i r, s.rec? i = some r → r.f16s ≤ 4080 ∧ ∀ c ∈ r.candidates, c.f16 ≤ 4080 ∧ c.dwell ≤ 255

end Sys2Proof.Machine
end

