-- ==== Sys2Proof/WellFormed.lean ====
section
/-! DEFINITION. Which commands are well formed: the operand values under which a row of the opcode table is that row
and not another. Every other command is well formed as its operand types stand; exec gives a meaning to ill-formed
ones too (the same bytes on the line are some other request, and act as that one). -/

namespace Sys2Proof

/-- The request kind codes of section 10.1. -/
def requestKinds : List Byte :=
  [0x01, 0x02, 0x03, 0x04, 0x05, 0x08, 0x09, 0x0A, 0x0B, 0x0C, 0x10, 0x11, 0x12, 0x13, 0x18, 0x19, 0x1A,
    0x20, 0x21, 0x22, 0x23]

/-- A LEVELS body of 4 + 4 × count bytes must fit the 200 body bytes of R146. -/
def levelsFits (pairs : List (HeadsetId × Byte)) : Bool := 4 + 4 * pairs.length ≤ 200

/-- The SET row's parameters are those without a check of their own (R175, step 4); 11 to 14 have rows of their own. -/
def plainParameter (p : Byte) : Bool := !(0x0B ≤ p && p ≤ 0x0E)

/-- A length byte that R146 refuses. -/
def badLengthByte (n : Byte) : Bool := n.toNat < 2 || 200 < n.toNat

/-- The check that a command's operands are those of its row. -/
def Instr.wellFormed : Instr → Bool
  | .levels _ _ _ pairs => levelsFits pairs
  | .set _ _ p _ => plainParameter p
  | .unknownKind _ kind _ => !requestKinds.contains kind
  | .malformed _ n => badLengthByte n
  | .antUp .. | .antDown .. | .antDrain .. | .antReopen .. | .cardRestart .. | .attach .. | .detach ..
  | .listen .. | .keyOn .. | .keyOff .. | .ready .. | .decline .. | .arrived .. | .stay .. | .queryHeadset ..
  | .queryAntenna .. | .queryClock .. | .setAirtimeParameter .. | .setHandoffDepth .. | .get .. | .trim ..
  | .clearFlags .. | .requestReceived .. | .badCharacter .. | .idleTimerExpiry .. | .lineBreak ..
  | .replyTransmission .. | .prepareNotice .. | .moveNotice .. | .framePlanNotice .. | .messageSent ..
  | .frameBoundary | .serveLostExpiry .. | .retainExpiry .. | .candidateAgeExpiry .. | .prepareTimerExpiry ..
  | .moveTimerExpiry .. | .reset | .resetRelease .. | .goodCharacter .. | .fsyncPulseEnd => true

end Sys2Proof
end

