-- ==== Sys2Proof/Certificates/Slice0/Obligations.lean ====
section
/-! DEFINITION. The statements for the provers, in the order of OBLIGATIONS.json. Where a statement's result is a state, it
is written out as that state, so that everything it does not write is said to be unchanged; `replied` names the one
reply that a request leaves in the reply slot of its link. -/

open Sys2Proof Sys2Proof.Machine

/-! ## The step, reset and the frame boundary -/

/-- A step takes the command at the front of the queue and executes it on the rest; with none waiting the block idles
(log entry 1, the model's choice). -/
def Obligations.StepRunsTheFrontCommand : Prop :=
  (∀ (s : State) (c : Instr) (rest : List Instr), s.pending = c :: rest →
    step s = exec c { s with pending := rest }) ∧
  (∀ s : State, s.pending = [] → step s = .next s)

/-- RESET leaves every block at its reset values, all activity discarded (R180, R21, R40, R114, R143, R158, R173); the
queue of waiting commands and the model's choice counter stand (the model's choice, log entry 5). -/
def Obligations.ResetGivesEveryBlockItsResetValues : Prop :=
  ∀ s : State, ∃ t : State, exec .reset s = .next t ∧ t.resetHeld = true ∧
    (∀ i, t.rec? i = none) ∧
    (∀ a, (t.ant a).state = .down ∧ (t.ant a).owner = none ∧ (∀ g, ((t.ant a).plan.get g).isEmpty = true) ∧
      (∀ c, (t.ant a).carriage.get c = 0) ∧ (t.ant a).queue = [] ∧ (t.ant a).planDue = false) ∧
    t.handoffs = [] ∧ t.seqCounter = 0 ∧ t.trim = 0 ∧ t.acc = 0 ∧ t.frameNumber = 0 ∧ t.frameLength = 160000 ∧
    t.fsync = false ∧
    (∀ l, (t.link l).asm = .hunt ∧ (t.link l).slots = [] ∧ (t.link l).reply = none ∧ (t.link l).tx = none ∧
      (t.link l).flags = 0) ∧
    t.params = { filterWeight := 4, margin := 6, dwell := 3, lossLevel := 40, lossHyst := 8, candAge := 50,
                 serveLost := 30, retain := 6000, prepTime := 5, moveTime := 20, handoffDepth := 2, beacon := 400,
                 guardTime := 40, reserve := 500 } ∧
    t.pending = s.pending ∧ t.choices = s.choices

/-- While reset is held no command but RESET and RESET_RELEASE has an effect; at the release the CFGSEL1:0 and RATESEL1:0
levels are taken and nothing else changes; while reset is not held a change of the straps has no effect (R178, R179,
R180; that the other commands have no effect is read from R143, R158 and R180, log entry 5). -/
def Obligations.HeldResetAndItsRelease : Prop :=
  (∀ (c : Instr) (s : State), s.resetHeld = true → c ≠ .reset → (∀ x y, c ≠ .resetRelease x y) →
    exec c s = .next s) ∧
  (∀ (s : State) (cfgsel ratesel : BitVec 2) (k : LinkId), s.resetHeld = true → k.val = cfgsel.toNat →
    exec (.resetRelease cfgsel ratesel) s =
      .next { s with resetHeld := false, settingsLink := k, rateCode := ratesel }) ∧
  (∀ (s : State) (cfgsel ratesel : BitVec 2), s.resetHeld = false → exec (.resetRelease cfgsel ratesel) s = .next s)

/-- At a frame boundary k is the floor of (A + T × 160,000) / 2^23, the next frame lasts 160,000 − k cycles, A becomes the
sum minus k × 2^23, the frame number rises by 1 modulo 65536, FSYNC goes high, and every running timer counts the
boundary, but for one whose count would reach its parameter: that one is left due, its count not yet raised, since count
and expiry are one event (R135, R138, R139, R140; that it is then taken as a command of its own, or before the next
command, is log entries 2 and 3). 16 REFCLK cycles later FSYNC goes low. -/
def Obligations.FrameBoundaryAdvancesTheTimebase : Prop :=
  (∀ (s : State) (k : Int), s.resetHeld = false → NoExpiryDue s → TransmittersSettled s →
    k * 8388608 ≤ s.acc + s.trim * 160000 → s.acc + s.trim * 160000 < (k + 1) * 8388608 →
    let counted := fun (limit : Nat) (t : Option Timer) =>
      t.map fun t => if limit ≤ t.count + 1 then { t with due := true } else { count := t.count + 1, due := false }
    exec .frameBoundary s = .next { s with
      frameLength := 160000 - k
      acc := s.acc + s.trim * 160000 - k * 8388608
      frameNumber := s.frameNumber + 1
      fsync := true
      roster := s.roster.map fun r => r.map fun r =>
        { r with
          serveLost := counted s.params.serveLost r.serveLost
          retain := counted s.params.retain r.retain
          candidates := r.candidates.map fun c => { c with age := counted s.params.candAge c.age } }
      handoffs := s.handoffs.map fun x =>
        { x with
          prepTimer := counted s.params.prepTime x.prepTimer
          moveTimer := counted s.params.moveTime x.moveTimer } }) ∧
  (∀ s : State, s.resetHeld = false → exec .fsyncPulseEnd s = .next { s with fsync := false })

/-! ## The expiries -/

/-- SERVE_LOST_EXPIRY: an ON or WAITING key becomes PENDING, a WAITING one leaving its queue, the serving seat is released
with its effects, and the record goes ADRIFT with its retain timer at 0 (R13, R14, R36, R53); where no other key waits at
the serving antenna that state is written out whole. A HANDING record's entry is first aborted without return, and its
depth release follows (R5, R14).
RETAIN_EXPIRY frees the record, its entry aborted without return (R15). CANDIDATE_AGE_EXPIRY removes the candidate entry,
and with it a QUEUED handoff entry that names it, the record returning to SETTLED and a PENDING key applied (R74, R92,
R93). Each expires as it takes the boundary that left it due, if its count then reaches its parameter, read at that moment;
where the parameter was raised meanwhile, the timer counts the boundary and runs on (R140, log entry 7). -/
def Obligations.ExpiriesTakeTheirEffect : Prop :=
  (∀ (s : State) (i : RosterIx) (r : Record) (v : Serving) (t : Timer), s.resetHeld = false → TransmittersSettled s →
    s.rec? i = some r → r.serveLost = some t → t.due = true → s.params.serveLost ≤ t.count + 1 → r.serving = some v →
    let lost := fun (u : State) (q : Record) (w : Serving) =>
      (((u.queueLeft i q).setRec i (some
        { q with key := if q.key = .on ∨ q.key = .waiting then .pending else q.key })).seatReleased
          w.antenna w.group w.seat q.listen).modRec i fun q =>
        { q with state := .adrift, serving := none, serveLost := none, weak := false
                 retain := some { count := 0, due := false } }
    (r.handoff = none → exec (.serveLostExpiry i) s = .next (lost s r v)) ∧
    (r.handoff = none →
      (if r.key = .waiting then (s.ant v.antenna).queue.filter (fun j => j != i) else (s.ant v.antenna).queue) = [] →
      exec (.serveLostExpiry i) s = .next
        ((clearBlocked v.antenna (s.modAnt v.antenna fun x =>
          { x.vacated s.params v.group v.seat r.listen with queue := [] })).setRec i
            (some (r.unblock v.antenna).lost))) ∧
    (∀ (x : Entry) (q : Record) (w : Serving), s.entryOf? r = some x → x.headset = i →
      (s.torn x false).rec? i = some q → q.serving = some w →
      exec (.serveLostExpiry i) s = .next (depthReleaseFor (s.loweredLink r) (lost (s.torn x false) q w)))) ∧
  (∀ (s : State) (i : RosterIx) (r : Record) (t : Timer), s.resetHeld = false → TransmittersSettled s →
    s.rec? i = some r → r.serveLost = some t → t.due = true → t.count + 1 < s.params.serveLost →
    exec (.serveLostExpiry i) s =
      .next (s.setRec i (some { r with serveLost := some { count := t.count + 1, due := false } }))) ∧
  (∀ (s : State) (i : RosterIx) (r : Record) (t : Timer), s.resetHeld = false → TransmittersSettled s →
    s.rec? i = some r → r.retain = some t → t.due = true → s.params.retain ≤ t.count + 1 →
    (r.handoff = none → exec (.retainExpiry i) s = .next (s.setRec i none)) ∧
    (∀ x : Entry, s.entryOf? r = some x → x.headset = i →
      exec (.retainExpiry i) s = .next (depthReleaseFor (s.loweredLink r) ((s.torn x false).setRec i none)))) ∧
  (∀ (s : State) (i : RosterIx) (r : Record) (t : Timer), s.resetHeld = false → TransmittersSettled s →
    s.rec? i = some r → r.retain = some t → t.due = true → t.count + 1 < s.params.retain →
    exec (.retainExpiry i) s =
      .next (s.setRec i (some { r with retain := some { count := t.count + 1, due := false } }))) ∧
  (∀ (s : State) (i : RosterIx) (r : Record) (c : Candidate) (t : Timer), s.resetHeld = false → TransmittersSettled s →
    s.rec? i = some r → c ∈ r.candidates → c.age = some t → t.due = true → s.params.candAge ≤ t.count + 1 →
    ((∀ x, s.entryOf? r = some x → x.phase = .queued → x.target ≠ c.antenna) →
      exec (.candidateAgeExpiry i c.antenna) s = .next
        (s.setRec i (some { r with candidates := r.candidates.filter fun d => d.antenna != c.antenna }))) ∧
    (∀ x : Entry, s.entry? x.num = some x → r.handoff = some x.num → x.headset = i → x.phase = .queued →
      x.target = c.antenna →
      exec (.candidateAgeExpiry i c.antenna) s = .next
        ((({ s with handoffs := s.handoffs.filter fun y => y.num != x.num } : State).setRec i
          (some { r with candidates := r.candidates.filter fun d => d.antenna != c.antenna
                         state := .settled, handoff := none })).keyApplied i))) ∧
  (∀ (s : State) (i : RosterIx) (r : Record) (c : Candidate) (t : Timer), s.resetHeld = false → TransmittersSettled s →
    s.rec? i = some r → c ∈ r.candidates → (∀ d ∈ r.candidates, d.antenna = c.antenna → d = c) → c.age = some t →
    t.due = true → t.count + 1 < s.params.candAge →
    exec (.candidateAgeExpiry i c.antenna) s = .next (s.setRec i (some { r with
      candidates := r.candidates.map fun d =>
        if d.antenna = c.antenna then { d with age := some { count := t.count + 1, due := false } } else d })))

/-! ## The handoff exchange -/

/-- The abort with return of a started entry, by DECLINE and by the expiry of the prepare timer while PREPARING, by STAY
and by the expiry of the move timer while MOVING: the reserved seat is released with its effects, the target's candidate
entry starts afresh at dwell 0, the entry is freed, a record that holds its serving seat returns to SETTLED with its
serve-lost timer at 0, its serving antenna's plan due after MOVING, and a PENDING key is applied there; an ADRIFT record
stays ADRIFT; the depth release for the target's owner follows (R74, R116, R119, R123, R125, R130, R131). Where nothing
waits at the target and the headset is served elsewhere, that state is written out whole. A due timer whose parameter was
raised meanwhile counts the boundary and runs on (R140, log entry 7). -/
def Obligations.AbortsReturnTheHeadset : Prop :=
  (∀ (s : State) (x : Entry) (r : Record) (l : LinkId) (tag : Byte) (h : HeadsetId),
    s.entry? x.num = some x → s.rec? x.headset = some r → r.handoff = some x.num →
    (Ready l s → validHeadset h = true → s.findHeadset h = some x.headset → x.phase = .preparing →
      s.owner x.target = some l →
      exec (.decline l tag h) s = .next ((depthRelease l (s.recalled x false)).replied l 0x11 tag .ok [])) ∧
    (∀ v, Ready l s → validHeadset h = true → s.findHeadset h = some x.headset → x.phase = .moving →
      r.state = .handing → r.serving = some v → s.owner v.antenna = some l →
      exec (.stay l tag h) s = .next
        ((depthReleaseFor (s.owner x.target) (s.recalled x false)).replied l 0x13 tag .ok [])) ∧
    (∀ t : Timer, s.resetHeld = false → TransmittersSettled s → x.phase = .preparing → x.prepTimer = some t →
      t.due = true → s.params.prepTime ≤ t.count + 1 →
      exec (.prepareTimerExpiry x.num) s = .next (depthReleaseFor (s.owner x.target) (s.recalled x false))) ∧
    (∀ t : Timer, s.resetHeld = false → TransmittersSettled s → x.phase = .moving → x.moveTimer = some t →
      t.due = true → s.params.moveTime ≤ t.count + 1 →
      exec (.moveTimerExpiry x.num) s = .next (depthReleaseFor (s.owner x.target) (s.recalled x false)))) ∧
  (∀ (s : State) (x : Entry) (i : RosterIx) (r : Record) (v : Serving) (g : GroupIx) (n : SeatNo),
    x.phase ≠ .queued → x.headset = i → s.rec? i = some r → x.reserved = some (g, n) → r.serving = some v →
    v.antenna ≠ x.target → (s.ant x.target).queue = [] →
    s.recalled x false = (s.aborted x i r v g n).keyApplied i) ∧
  (∀ (s : State) (x : Entry) (t : Timer), s.resetHeld = false → TransmittersSettled s → s.entry? x.num = some x →
    (∀ y ∈ s.handoffs, y.num = x.num → y = x) → t.due = true →
    (x.prepTimer = some t → t.count + 1 < s.params.prepTime →
      exec (.prepareTimerExpiry x.num) s = .next { s with handoffs := s.handoffs.map fun y =>
        if y.num = x.num then { y with prepTimer := some { count := t.count + 1, due := false } } else y }) ∧
    (x.moveTimer = some t → t.count + 1 < s.params.moveTime →
      exec (.moveTimerExpiry x.num) s = .next { s with handoffs := s.handoffs.map fun y =>
        if y.num = x.num then { y with moveTimer := some { count := t.count + 1, due := false } } else y }))

/-- READY for a PREPARING entry whose target the link owns stops the prepare timer, makes the entry MOVING with the
switch frame two frames on, starts the move timer, marks the MOVE due and stops the record's serve-lost timer; nothing
else changes (R118). -/
def Obligations.ReadyMovesTheEntry : Prop :=
  ∀ (s : State) (l : LinkId) (tag : Byte) (h : HeadsetId) (i : RosterIx) (r : Record) (x : Entry),
    Ready l s → validHeadset h = true → s.findHeadset h = some i → s.rec? i = some r → r.handoff = some x.num →
    s.entry? x.num = some x → x.headset = i → x.phase = .preparing → s.owner x.target = some l →
    exec (.ready l tag h) s = .next
      ((({ s with handoffs := s.handoffs.map fun y =>
          if y.num = x.num then
            { y with prepTimer := none, phase := .moving, switchFrame := some (s.frameNumber + 2),
                     moveTimer := some { count := 0, due := false }, moveDue := true }
          else y } : State).setRec i (some { r with serveLost := none })).replied l 0x10 tag .ok [])

/-- A MOVING handoff completes by ARRIVED from the target's owner and by a LEVELS pair from the target, whatever its
level: the old seat is released with its effects, the reserved seat becomes the serving seat, F16S takes the target
candidate's held level, WEAK and every dwell are cleared, an ACTIVE old antenna is offered to the list, the record is
SETTLED with its serve-lost timer at 0, a PENDING key is applied at the target, and the entry is freed; of a headset that
went ADRIFT no old seat is released and no antenna offered (R74, R96, R124, R127, R128, R129). A reserved seat that
carries the talk burst while the key is not ON, as after ANT DOWN of a keyed headset (R76), is lowered as it is converted,
with its effects (R54), and the link's depth release follows (R111). Where the burst needs no lowering, no key waits at
the source and no entry is QUEUED for the link, the state is written out whole. -/
def Obligations.HandoffsComplete : Prop :=
  (∀ (s : State) (l : LinkId) (tag : Byte) (h : HeadsetId) (level : Byte) (x : Entry) (i : RosterIx) (r : Record)
    (g : GroupIx) (n : SeatNo) (c : Candidate),
    Ready l s → validHeadset h = true → s.findHeadset h = some i → s.rec? i = some r → r.handoff = some x.num →
    s.entry? x.num = some x → x.headset = i → x.phase = .moving → x.reserved = some (g, n) →
    s.owner x.target = some l → r.candidates.find? (fun d => d.antenna == x.target) = some c →
    (∀ v, r.serving = some v → v.antenna ≠ x.target) →
    let left := match r.serving with
      | none => s
      | some v => s.seatReleased v.antenna v.group v.seat r.listen
    let seated := left.converted x.target g n r
    let settled := seated.modRec i fun q =>
      let rest := (q.candidates.filter fun d => d.antenna != x.target).map fun d => { d with dwell := 0 }
      { q with
        state := .settled, serving := some { antenna := x.target, group := g, seat := n }, f16s := c.f16, weak := false
        candidates := match r.serving with
          | none => rest
          | some v =>
            if (seated.ant v.antenna).state = .active ∧ ∀ d ∈ rest, d.antenna ≠ v.antenna then
              placeCandidate { antenna := v.antenna, f16 := q.f16s, dwell := 0, age := some { count := 0, due := false }
                               blocked := false } rest
            else rest
        serveLost := some { count := 0, due := false }, retain := none, handoff := none }
    let t := depthRelease l { settled.keyApplied i with handoffs := s.handoffs.filter fun y => y.num != x.num }
    exec (.arrived l tag h (byteOf x.target.val)) s = .next (t.replied l 0x12 tag .ok []) ∧
    exec (.levels l tag (byteOf x.target.val) [(h, level)]) s = .next (t.replied l 0x0A tag .ok [1, 0])) ∧
  ∀ (s : State) (l : LinkId) (tag : Byte) (h : HeadsetId) (level : Byte) (x : Entry) (i : RosterIx) (r : Record)
    (g : GroupIx) (n : SeatNo) (seat : Seat) (c : Candidate),
    Ready l s → validHeadset h = true → s.findHeadset h = some i → s.rec? i = some r → r.handoff = some x.num →
    s.entry? x.num = some x → x.headset = i → x.phase = .moving → x.reserved = some (g, n) →
    s.owner x.target = some l → ((s.ant x.target).plan.get g).seat n = some seat →
    (r.key = .on ∨ seat.burst ≠ r.profile.talkBurst) →
    r.candidates.find? (fun d => d.antenna == x.target) = some c →
    (∀ y ∈ s.handoffs, y.phase = .queued → s.owner y.target ≠ some l) →
    (∀ v, r.serving = some v → v.antenna ≠ x.target → (s.ant v.antenna).queue = [] →
      let t := (s.completed x i r v g n seat c.f16).keyApplied i
      exec (.arrived l tag h (byteOf x.target.val)) s = .next (t.replied l 0x12 tag .ok []) ∧
      exec (.levels l tag (byteOf x.target.val) [(h, level)]) s = .next (t.replied l 0x0A tag .ok [1, 0])) ∧
    (r.serving = none →
      let u := s.modAnt x.target fun y => y.withPlan s.params (putSeat y.plan g n (some { seat with kind := .serving }))
      let t := (({ u with handoffs := s.handoffs.filter fun y => y.num != x.num } : State).setRec i (some
        { r with
          state := .settled, serving := some { antenna := x.target, group := g, seat := n }, f16s := c.f16, weak := false
          candidates := (r.candidates.filter fun d => d.antenna != x.target).map fun d => { d with dwell := 0 }
          serveLost := some { count := 0, due := false }, retain := none, handoff := none })).keyApplied i
      exec (.arrived l tag h (byteOf x.target.val)) s = .next (t.replied l 0x12 tag .ok []) ∧
      exec (.levels l tag (byteOf x.target.val) [(h, level)]) s = .next (t.replied l 0x0A tag .ok [1, 0]))

/-- What the headset and handoff requests refuse, with no effect: an invalid headset ID is BAD FIELD; an unknown headset
is NO SUCH HEADSET to DETACH, LISTEN, QUERY HEADSET and KEY and STALE to READY, DECLINE, ARRIVED and STAY; READY and
DECLINE are STALE unless the record's entry is PREPARING toward an antenna of the link; ARRIVED at the target of a MOVING
entry is NOT OWNER from another link than the target's, at the serving antenna OK to its owner and NOT OWNER to others,
and otherwise STALE; STAY is STALE without a MOVING entry and NOT OWNER from another link than the serving antenna's; KEY
is NOT OWNER likewise (R3, R12, R18, R19, R66, R117, R124,
R125). -/
def Obligations.HeadsetRequestsAreChecked : Prop :=
  ∀ (s : State) (l : LinkId) (tag : Byte) (h : HeadsetId) (b : Byte) (set : ListenSet), Ready l s →
    (validHeadset h = false →
      exec (.detach l tag h) s = .next (s.replied l 0x09 tag .badField []) ∧
      exec (.listen l tag h set) s = .next (s.replied l 0x0B tag .badField []) ∧
      exec (.keyOn l tag h) s = .next (s.replied l 0x0C tag .badField []) ∧
      exec (.keyOff l tag h) s = .next (s.replied l 0x0C tag .badField []) ∧
      exec (.ready l tag h) s = .next (s.replied l 0x10 tag .badField []) ∧
      exec (.decline l tag h) s = .next (s.replied l 0x11 tag .badField []) ∧
      exec (.arrived l tag h b) s = .next (s.replied l 0x12 tag .badField []) ∧
      exec (.stay l tag h) s = .next (s.replied l 0x13 tag .badField []) ∧
      exec (.queryHeadset l tag h) s = .next (s.replied l 0x18 tag .badField [])) ∧
    (63 < b.toNat → exec (.arrived l tag h b) s = .next (s.replied l 0x12 tag .badField [])) ∧
    (validHeadset h = true → s.findHeadset h = none →
      exec (.detach l tag h) s = .next (s.replied l 0x09 tag .noSuchHeadset []) ∧
      exec (.listen l tag h set) s = .next (s.replied l 0x0B tag .noSuchHeadset []) ∧
      exec (.keyOn l tag h) s = .next (s.replied l 0x0C tag .noSuchHeadset []) ∧
      exec (.keyOff l tag h) s = .next (s.replied l 0x0C tag .noSuchHeadset []) ∧
      exec (.ready l tag h) s = .next (s.replied l 0x10 tag .stale []) ∧
      exec (.decline l tag h) s = .next (s.replied l 0x11 tag .stale []) ∧
      (b.toNat ≤ 63 → exec (.arrived l tag h b) s = .next (s.replied l 0x12 tag .stale [])) ∧
      exec (.stay l tag h) s = .next (s.replied l 0x13 tag .stale []) ∧
      exec (.queryHeadset l tag h) s = .next (s.replied l 0x18 tag .noSuchHeadset [])) ∧
    (∀ (i : RosterIx) (r : Record), validHeadset h = true → s.findHeadset h = some i → s.rec? i = some r →
      ((∀ x, s.entryOf? r = some x → x.phase = .preparing → s.owner x.target ≠ some l) →
        exec (.ready l tag h) s = .next (s.replied l 0x10 tag .stale []) ∧
        exec (.decline l tag h) s = .next (s.replied l 0x11 tag .stale [])) ∧
      (∀ x, s.entryOf? r = some x → x.phase = .moving → s.owner x.target ≠ some l →
        exec (.arrived l tag h (byteOf x.target.val)) s = .next (s.replied l 0x12 tag .notOwner [])) ∧
      (∀ a : AntennaId, (∀ x, s.entryOf? r = some x → x.phase = .moving → x.target ≠ a) →
        (∀ v, r.serving = some v → v.antenna = a → r.state ≠ .adrift →
          exec (.arrived l tag h (byteOf a.val)) s = .next
            (s.replied l 0x12 tag (if s.owner a = some l then .ok else .notOwner) [])) ∧
        (r.state = .adrift ∨ (∀ v, r.serving = some v → v.antenna ≠ a) →
          exec (.arrived l tag h (byteOf a.val)) s = .next (s.replied l 0x12 tag .stale []))) ∧
      ((∀ x, s.entryOf? r = some x → x.phase = .moving → r.state ≠ .handing) →
        exec (.stay l tag h) s = .next (s.replied l 0x13 tag .stale [])) ∧
      (∀ v, r.serving = some v → s.owner v.antenna ≠ some l →
        ((∃ x, s.entryOf? r = some x ∧ x.phase = .moving) → r.state = .handing →
          exec (.stay l tag h) s = .next (s.replied l 0x13 tag .notOwner [])) ∧
        (r.state ≠ .adrift →
          exec (.keyOn l tag h) s = .next (s.replied l 0x0C tag .notOwner []) ∧
          exec (.keyOff l tag h) s = .next (s.replied l 0x0C tag .notOwner []))))

/-! ## LEVELS -/

/-- A serving report of a SETTLED or HANDING headset: F16S is updated and WEAK assessed, the serve-lost timer restarts
unless the entry is MOVING, and the dwell of each candidate that is not blocked, not the target candidate, and no longer
passes the level test of the record's terms is 0; a SETTLED headset that is WEAK or served at a DRAINING antenna is then
evaluated (R83, R84, R86, R99, R102, R104). While MOVING, with the switch frame begun and a level of LOSS_LEVEL or more,
it is a bounce-back: the handoff is aborted with return before the dwell step, and a headset that is WEAK or served at a
DRAINING antenna is evaluated (R86, R121, R130, R131), also at the boundary at which the move timer has run out, where the
expiry's row waits behind the report (R123; that the queue gives the order is log entry 2). The depth release for the
target's owner (R111) stands directly after the abort, before the dwell step and the evaluation of the same report: that
order is the model's reading (DEDUCED, log entry 9). Where no key waits at the target and no entry is QUEUED for its owner,
so that no release acts, the state after the abort is written out. -/
def Obligations.ServingReportsAreApplied : Prop :=
  ∀ (s : State) (l : LinkId) (tag : Byte) (h : HeadsetId) (level : Byte) (i : RosterIx) (r : Record) (v : Serving),
    Ready l s → validHeadset h = true → s.findHeadset h = some i → s.rec? i = some r → r.state ≠ .adrift →
    r.serving = some v → s.owner v.antenna = some l →
    let f := filterUpdate s.params.filterWeight r.f16s level
    let weak := weakAfter s.params f r.weak
    let drain := decide ((s.ant v.antenna).state = .draining)
    let dwelt := fun (target : Option AntennaId) (list : List Candidate) =>
      list.map fun c =>
        if c.blocked = false ∧ target ≠ some c.antenna ∧ levelSuits s.params drain weak f c.f16 = false
        then { c with dwell := 0 } else c
    let bounce := fun (x : Entry) => ∃ switch, x.switchFrame = some switch ∧
      2 ≤ (s.frameNumber - switch + 2).toNat ∧ s.params.lossLevel ≤ level.toNat
    ((∀ x, s.entryOf? r = some x → x.phase = .moving → ¬ bounce x) →
      let moving := (s.entryOf? r).any fun x => x.phase == .moving
      let t := s.setRec i (some
        { r with
          f16s := f, weak := weak, candidates := dwelt (s.heldTarget r) r.candidates
          serveLost := if moving = true then r.serveLost else some { count := 0, due := false } })
      exec (.levels l tag (byteOf v.antenna.val) [(h, level)]) s = .next
        ((if r.state = .settled ∧ (weak = true ∨ drain = true) then evaluate false i t else t).replied
          l 0x0A tag .ok [1, 0])) ∧
    (∀ x, r.state = .handing → r.handoff = some x.num → s.entry? x.num = some x → x.headset = i → x.phase = .moving →
      bounce x → v.antenna ≠ x.target →
      let t := (depthReleaseFor (s.owner x.target)
        ((s.setRec i (some { r with f16s := f, weak := weak })).recalled x false)).modRec i fun q =>
          { q with candidates := dwelt none q.candidates }
      exec (.levels l tag (byteOf v.antenna.val) [(h, level)]) s = .next
        ((if weak = true ∨ drain = true then evaluate false i t else t).replied l 0x0A tag .ok [1, 0])) ∧
    (∀ x g n, r.state = .handing → r.handoff = some x.num → s.entry? x.num = some x → x.headset = i →
      x.phase = .moving → x.reserved = some (g, n) → bounce x → v.antenna ≠ x.target → (s.ant x.target).queue = [] →
      (∀ y ∈ s.handoffs, y.phase = .queued → s.owner y.target ≠ s.owner x.target) →
      let t := ((s.aborted x i { r with f16s := f, weak := weak } v g n).keyApplied i).modRec i fun q =>
        { q with candidates := dwelt none q.candidates }
      exec (.levels l tag (byteOf v.antenna.val) [(h, level)]) s = .next
        ((if weak = true ∨ drain = true then evaluate false i t else t).replied l 0x0A tag .ok [1, 0]))

/-- A candidate report from an ACTIVE antenna that neither serves the headset nor is its target: a listed entry is
filtered with the level, its age timer restarted; an unlisted antenna gets a new entry seeded at 16 times the level where
the list holds fewer than three, or where the level's seed exceeds the F16 of the last entry that is not the target
candidate, which leaves the list (R88, R90, R91); with no greater seed the pair is skipped. The entry takes its place by
its F16, and its dwell counts where it is not blocked and passes the level test of the record's terms, and is 0 where it
does not or the headset is ADRIFT (R89, R101); a SETTLED headset is then evaluated (R104). A QUEUED handoff toward the
antenna that leaves the list is removed first, the record returning to SETTLED and a PENDING key applied (R74, R92). -/
def Obligations.CandidateReportsInsertAnEntry : Prop :=
  ∀ (s : State) (l : LinkId) (tag : Byte) (h : HeadsetId) (level : Byte) (a : AntennaId) (i : RosterIx) (r : Record),
    Ready l s → validHeadset h = true → s.findHeadset h = some i → s.rec? i = some r → s.owner a = some l →
    (s.ant a).state = .active → (∀ v, r.serving = some v → v.antenna ≠ a) → s.heldTarget r ≠ some a →
    (r.state = .adrift → s.entryOf? r ≠ none ∨ level.toNat < s.params.lossLevel ∨
      place? s a r.profile.listenBurst = none) →
    let counted := fun (c : Candidate) =>
      { c with
        dwell := if r.state ≠ .adrift ∧ c.blocked = false ∧
            levelSuits s.params (s.underDrain r) r.weak r.f16s c.f16 = true
          then min 255 (c.dwell + 1) else 0 }
    let fresh := counted
      { antenna := a, f16 := level.toNat * 16, dwell := 0, age := some { count := 0, due := false }, blocked := false }
    let result := fun (list : List Candidate) =>
      let t := s.setRec i (some { r with candidates := list })
      (if r.state = .settled then evaluate false i t else t).replied l 0x0A tag .ok [1, 0]
    let report : Instr := .levels l tag (byteOf a.val) [(h, level)]
    (∀ c, r.candidates.find? (fun d => d.antenna == a) = some c →
      exec report s = .next (result (placeCandidate
        (counted { c with f16 := filterUpdate s.params.filterWeight c.f16 level
                          age := some { count := 0, due := false } })
        (r.candidates.filter fun d => d.antenna != a)))) ∧
    ((∀ c ∈ r.candidates, c.antenna ≠ a) →
      (r.candidates.length < 3 → exec report s = .next (result (placeCandidate fresh r.candidates))) ∧
      (∀ before w behind, 3 ≤ r.candidates.length → r.candidates = before ++ w :: behind →
        s.heldTarget r ≠ some w.antenna → (∀ d ∈ behind, s.heldTarget r = some d.antenna) →
        let rest := r.candidates.filter fun d => d.antenna != w.antenna
        (level.toNat * 16 ≤ w.f16 → exec report s = .next (s.replied l 0x0A tag .ok [0, 1])) ∧
        (w.f16 < level.toNat * 16 → (∀ x, s.entryOf? r = some x → x.phase = .queued → x.target ≠ w.antenna) →
          exec report s = .next (result (placeCandidate fresh rest))) ∧
        (∀ x, w.f16 < level.toNat * 16 → r.state = .handing → r.handoff = some x.num → s.entry? x.num = some x →
          x.headset = i → x.phase = .queued → x.target = w.antenna →
          let t := (({ s with handoffs := s.handoffs.filter fun y => y.num != x.num } : State).setRec i
            (some { r with candidates := rest, state := .settled, handoff := none })).keyApplied i
          exec report s = .next
            ((evaluate false i (t.modRec i fun q => { q with candidates := placeCandidate fresh q.candidates })).replied
              l 0x0A tag .ok [1, 0]))))

/-- Re-admission: a pair at or above LOSS_LEVEL from an ACTIVE antenna seats an ADRIFT headset that holds no handoff entry
there, where the chosen placement fits, and a PENDING key is then applied there (R16, R48, R74). -/
def Obligations.ReadmissionSeatsTheHeadset : Prop :=
  ∀ (s : State) (l : LinkId) (tag : Byte) (h : HeadsetId) (level : Byte) (a : AntennaId) (i : RosterIx) (r : Record)
    (p : Placement),
    Ready l s → validHeadset h = true → s.findHeadset h = some i → s.rec? i = some r → r.state = .adrift →
    r.handoff = none → s.owner a = some l → (s.ant a).state = .active →
    s.params.lossLevel ≤ level.toNat → place? s a r.profile.listenBurst = some p →
    let seated : Record :=
      { r with state := .settled, serving := some { antenna := a, group := p.group, seat := p.seat }
               f16s := level.toNat * 16, weak := false, candidates := []
               serveLost := some { count := 0, due := false }, retain := none }
    let t := (s.modAnt a (Antenna.occupied s.params p.group p.seat
      { headset := i, kind := .serving, burst := r.profile.listenBurst } r.listen)).setRec i (some seated)
    let run := fun (u : State) =>
      exec (.levels l tag (byteOf a.val) [(h, level)]) s = .next (u.replied l 0x0A tag .ok [1, 0])
    (r.key ≠ .pending → run t) ∧
    (r.key = .pending →
      (∀ u moved, rePlace? t i = some (u, moved) → run (if moved then roomMade a u else u)) ∧
      (rePlace? t i = none → (t.ant a).queue.length < 4 →
        run ((t.modAnt a fun x => { x with queue := x.queue ++ [i] }).setRec i (some { seated with key := .waiting }))) ∧
      (rePlace? t i = none → 4 ≤ (t.ant a).queue.length → run (t.setRec i (some { seated with key := .off }))))

/-- The pairs of an accepted LEVELS request are applied one at a time in their order, each whole and against the state that
the pair before it left, and the reply counts those applied and those skipped (R79, R166). The class of a pair is that of
the first row of the table that matches (R80); a pair of rows 1, 3 and 5, the only one of its request, changes nothing and
is counted as skipped. What one applied pair does is stated of LEVELS with that pair alone (HandoffsComplete,
ServingReportsAreApplied, CandidateReportsInsertAnEntry, ReadmissionSeatsTheHeadset). -/
def Obligations.PairsAreClassified : Prop :=
  (∀ (s : State) (l : LinkId) (tag : Byte) (a : AntennaId) (pairs : List (HeadsetId × Byte)), Ready l s →
    s.owner a = some l → pairs ≠ [] → pairs.length ≤ 24 → (∀ p ∈ pairs, validHeadset p.1 = true) →
    let done := pairs.foldl (fun (u : State × Nat) p =>
      ((applyPair a p u.1).1, if (applyPair a p u.1).2 = true then u.2 + 1 else u.2)) (s, 0)
    exec (.levels l tag (byteOf a.val) pairs) s = .next
      (done.1.replied l 0x0A tag .ok [byteOf done.2, byteOf (pairs.length - done.2)])) ∧
  (∀ (s : State) (l : LinkId) (tag : Byte) (a : AntennaId) (h : HeadsetId) (level : Byte), Ready l s →
    s.owner a = some l → validHeadset h = true →
    (s.findHeadset h = none ∨
      (∃ i r, s.findHeadset h = some i ∧ s.rec? i = some r ∧
        (r.state = .adrift ∨ (r.serving.map Serving.antenna) ≠ some a) ∧
        ((∃ x, s.entryOf? r = some x ∧ x.target = a ∧ x.phase = .preparing) ∨
          (((s.ant a).state = .draining ∨ (s.ant a).state = .closed) ∧
            ∀ x, s.entryOf? r = some x → x.target = a → x.phase ≠ .moving))) →
      exec (.levels l tag (byteOf a.val) [(h, level)]) s = .next (s.replied l 0x0A tag .ok [0, 1]))) ∧
  (∀ (s : State) (a : AntennaId) (p : HeadsetId × Byte), s.findHeadset p.1 = none → applyPair a p s = (s, false)) ∧
  (∀ (s : State) (r : Record) (a : AntennaId) (level : Byte),
    (r.state ≠ .adrift → (r.serving.map Serving.antenna) = some a → classify s r a level = .servingReport) ∧
    (r.state = .adrift ∨ (r.serving.map Serving.antenna) ≠ some a →
      (∀ x, s.entryOf? r = some x → x.target = a → x.phase = .preparing → classify s r a level = .skipped) ∧
      (∀ x, s.entryOf? r = some x → x.target = a → x.phase = .moving → classify s r a level = .arrival x.num) ∧
      ((∀ x, s.entryOf? r = some x → x.target = a → x.phase = .queued) →
        ((s.ant a).state = .draining ∨ (s.ant a).state = .closed → classify s r a level = .skipped) ∧
        ((s.ant a).state ≠ .draining → (s.ant a).state ≠ .closed →
          (r.state ≠ .adrift → classify s r a level = .candidateReport) ∧
          (r.state = .adrift → s.entryOf? r = none → s.params.lossLevel ≤ level.toNat →
            classify s r a level = .readmission) ∧
          (r.state = .adrift → s.entryOf? r = none → level.toNat < s.params.lossLevel →
            classify s r a level = .candidateReport) ∧
          (r.state = .adrift → s.entryOf? r ≠ none → classify s r a level = .candidateReport)))))

/-! ## The roster -/

/-- ATTACH of an unknown headset at an ACTIVE antenna of the link, the chosen placement fitting: the lowest FREE record, or
with none FREE the record that eviction chooses, is written whole, the seat is taken, and the reply carries index,
antenna, group and seat (R6, R7, R9, R48, R165). The MOVING handoff of an evicted record is first aborted without return,
its reserved seat released, and the depth release for its target's owner follows the seating; where the target is the
attach antenna the release's room-made effects are held until the new seat is taken (R7, R9). The class code of the
request gives the code stored and the profile: 0 is absent with profile 3, 1 to 5 are themselves, 6 to 15 are 3 (R2); the
profile gives the listen burst and the talk burst (section 3.2). -/
def Obligations.AttachSeatsANewHeadset : Prop :=
  (∀ prof : Profile, (prof.listenBurst, prof.talkBurst) =
    match prof with
    | .p1 => (200, 500)
    | .p2 => (250, 600)
    | .p3 => (300, 700)
    | .p4 => (350, 850)
    | .p5 => (400, 1000)) ∧
  (∀ cls : Byte,
    (cls.toNat = 0 → classOf? cls = some (none, .p3)) ∧
    (∀ prof : Profile, cls.toNat = (match prof with | .p1 => 1 | .p2 => 2 | .p3 => 3 | .p4 => 4 | .p5 => 5) →
      classOf? cls = some (some prof, prof)) ∧
    (6 ≤ cls.toNat → cls.toNat ≤ 15 → classOf? cls = some (some .p3, .p3)) ∧
    (15 < cls.toNat → classOf? cls = none)) ∧
  (∀ (s : State) (l : LinkId) (tag : Byte) (h : HeadsetId) (a : AntennaId) (cls : Byte) (set : ListenSet) (level : Byte)
    (code : Option Profile) (prof : Profile) (i : RosterIx) (r : Record) (x : Entry) (p : Placement),
    Ready l s → validHeadset h = true → s.findHeadset h = none → s.owner a = some l → (s.ant a).state = .active →
    classOf? cls = some (code, prof) → (∀ j, s.rec? j ≠ none) → victim? s = some i → s.rec? i = some r →
    s.entryOf? r = some x → x.headset = i → place? s a prof.listenBurst ≠ none →
    let seated := fun (t : State) =>
      (t.modAnt a (Antenna.occupied s.params p.group p.seat
          { headset := i, kind := .serving, burst := prof.listenBurst } set)).setRec i (some
        { id := h, state := .settled, classCode := code, profile := prof, listen := set, key := .off
          serving := some { antenna := a, group := p.group, seat := p.seat }, f16s := level.toNat * 16, weak := false
          serveLost := some { count := 0, due := false }, candidates := [], retain := none, handoff := none })
    let run := fun (t : State) =>
      exec (.attach l tag h (byteOf a.val) cls set level) s = .next
        ((depthReleaseFor (s.loweredLink r) t).replied l 0x08 tag .ok
          [byteOf i.val, byteOf a.val, byteOf p.group.val, byteOf p.seat.val])
    (s.heldTarget r ≠ some a → place? (s.torn x false) a prof.listenBurst = some p →
      run (seated (s.torn x false))) ∧
    (∀ g n, s.heldTarget r = some a → x.reserved = some (g, n) →
      let freed : State := { s.modAnt a fun y =>
          { y.withPlan s.params (putSeat y.plan g n none) with carriage := lowerCarriage y.carriage r.listen } with
        handoffs := s.handoffs.filter fun y => y.num != x.num }
      place? freed a prof.listenBurst = some p → run (roomMade a (seated freed)))) ∧
  ∀ (s : State) (l : LinkId) (tag : Byte) (h : HeadsetId) (a : AntennaId) (cls : Byte) (set : ListenSet) (level : Byte)
    (code : Option Profile) (prof : Profile) (i : RosterIx) (p : Placement),
    Ready l s → validHeadset h = true → s.findHeadset h = none → s.owner a = some l → (s.ant a).state = .active →
    classOf? cls = some (code, prof) →
    ((s.rec? i = none ∧ ∀ j, j < i → s.rec? j ≠ none) ∨
      ((∀ j, s.rec? j ≠ none) ∧ victim? s = some i ∧ ∀ r, s.rec? i = some r → r.handoff = none)) →
    place? s a prof.listenBurst = some p →
    exec (.attach l tag h (byteOf a.val) cls set level) s = .next
      (((s.modAnt a (Antenna.occupied s.params p.group p.seat
          { headset := i, kind := .serving, burst := prof.listenBurst } set)).setRec i (some
        { id := h, state := .settled, classCode := code, profile := prof, listen := set, key := .off
          serving := some { antenna := a, group := p.group, seat := p.seat }, f16s := level.toNat * 16, weak := false
          serveLost := some { count := 0, due := false }, candidates := [], retain := none
          handoff := none })).replied l 0x08 tag .ok
        [byteOf i.val, byteOf a.val, byteOf p.group.val, byteOf p.seat.val])

/-- ATTACH of an ADRIFT headset re-seats it with the class, profile and listen set of the request; its key is kept, and a
PENDING one applied (R11, R48, R74, R165). An entry that it still holds is first aborted without return, and the depth
release for its target's owner follows (R5). Where the placement does not fit, the reply is FRAME FULL and nothing but
that abort happens. The reply's seat is the one placed, also where the key applied moves it (log entry 8). -/
def Obligations.AttachReseatsAnAdriftHeadset : Prop :=
  ∀ (s : State) (l : LinkId) (tag : Byte) (h : HeadsetId) (a : AntennaId) (cls : Byte) (set : ListenSet) (level : Byte)
    (code : Option Profile) (prof : Profile) (i : RosterIx) (r : Record),
    Ready l s → validHeadset h = true → s.findHeadset h = some i → s.rec? i = some r → r.state = .adrift →
    s.owner a = some l → (s.ant a).state = .active → classOf? cls = some (code, prof) →
    let seated := fun (t : State) (p : Placement) =>
      ((t.modAnt a (Antenna.occupied s.params p.group p.seat
          { headset := i, kind := .serving, burst := prof.listenBurst } set)).modRec i fun q =>
        { q with state := .settled, classCode := code, profile := prof, listen := set
                 serving := some { antenna := a, group := p.group, seat := p.seat }, f16s := level.toNat * 16
                 weak := false, candidates := [], serveLost := some { count := 0, due := false }
                 retain := none }).keyApplied i
    let place := fun (p : Placement) => [byteOf i.val, byteOf a.val, byteOf p.group.val, byteOf p.seat.val]
    (r.handoff = none →
      (∀ p, place? s a prof.listenBurst = some p →
        exec (.attach l tag h (byteOf a.val) cls set level) s = .next
          ((seated s p).replied l 0x08 tag .ok (place p))) ∧
      (place? s a prof.listenBurst = none →
        exec (.attach l tag h (byteOf a.val) cls set level) s = .next (s.replied l 0x08 tag .frameFull []))) ∧
    (∀ x, s.entryOf? r = some x → x.headset = i →
      (∀ p, place? (s.torn x false) a prof.listenBurst = some p →
        exec (.attach l tag h (byteOf a.val) cls set level) s = .next
          ((depthReleaseFor (s.loweredLink r) (seated (s.torn x false) p)).replied l 0x08 tag .ok (place p))) ∧
      (place? (s.torn x false) a prof.listenBurst = none →
        exec (.attach l tag h (byteOf a.val) cls set level) s = .next
          ((depthReleaseFor (s.loweredLink r) (s.torn x false)).replied l 0x08 tag .frameFull [])))

/-- The checks of ATTACH, in order, each refusal without effect, and the answer to a headset that is already seated (R8,
R9, R10, R165). -/
def Obligations.AttachIsChecked : Prop :=
  ∀ (s : State) (l : LinkId) (tag : Byte) (h : HeadsetId) (b cls : Byte) (set : ListenSet) (level : Byte), Ready l s →
    (validHeadset h = false ∨ 63 < b.toNat ∨ 15 < cls.toNat →
      exec (.attach l tag h b cls set level) s = .next (s.replied l 0x08 tag .badField [])) ∧
    (validHeadset h = true → cls.toNat ≤ 15 → ∀ a : AntennaId, b = byteOf a.val →
      (s.owner a ≠ some l → exec (.attach l tag h b cls set level) s = .next (s.replied l 0x08 tag .notOwner [])) ∧
      (s.owner a = some l →
        (∀ (i : RosterIx) (r : Record) (v : Serving), s.findHeadset h = some i → s.rec? i = some r →
          r.state ≠ .adrift → r.serving = some v →
          exec (.attach l tag h b cls set level) s = .next
            (s.replied l 0x08 tag (if v.antenna = a then .ok else .alreadySeated)
              [byteOf i.val, byteOf v.antenna.val, byteOf v.group.val, byteOf v.seat.val])) ∧
        ((s.findHeadset h = none ∨ ∃ i r, s.findHeadset h = some i ∧ s.rec? i = some r ∧ r.state = .adrift) →
          (s.ant a).state ≠ .active →
          exec (.attach l tag h b cls set level) s = .next (s.replied l 0x08 tag .wrongState [])) ∧
        (s.findHeadset h = none → (s.ant a).state = .active →
          (∀ j, ∃ r, s.rec? j = some r ∧ r.state ≠ .adrift) →
          exec (.attach l tag h b cls set level) s = .next (s.replied l 0x08 tag .rosterFull [])) ∧
        (∀ code prof, classOf? cls = some (code, prof) → s.findHeadset h = none → (s.ant a).state = .active →
          (∃ j, ∀ r, s.rec? j = some r → r.state = .adrift) → place? s a prof.listenBurst = none →
          exec (.attach l tag h b cls set level) s = .next (s.replied l 0x08 tag .frameFull []))))

/-- Eviction chooses, among the ADRIFT records, the greatest retain count, and the lowest roster index among equals; with
none ADRIFT there is none to evict (R7). -/
def Obligations.EvictionChoosesTheLongestAdrift : Prop :=
  ∀ s : State,
    (∀ i, victim? s = some i → ∃ r, s.rec? i = some r ∧ r.state = .adrift ∧
      ∀ j q, s.rec? j = some q → q.state = .adrift →
        timerCount q.retain ≤ timerCount r.retain ∧ (timerCount q.retain = timerCount r.retain → i ≤ j)) ∧
    (victim? s = none ↔ ∀ j q, s.rec? j = some q → q.state ≠ .adrift)

/-- DETACH: a handoff entry is aborted without return, a WAITING key leaves its queue, the seat is released with its
effects, the record is FREE, and the depth release for the target's owner follows (R5, R6, R12, R36, R53, R111). An ADRIFT
record holds no seat and is freed without one. Where no other key waits at the serving antenna and no entry is held, the
state is written out whole. -/
def Obligations.DetachFreesTheRecord : Prop :=
  ∀ (s : State) (l : LinkId) (tag : Byte) (h : HeadsetId) (i : RosterIx) (r : Record),
    Ready l s → validHeadset h = true → s.findHeadset h = some i → s.rec? i = some r →
    (∀ v, r.handoff = none → r.serving = some v →
      exec (.detach l tag h) s = .next
        ((((s.queueLeft i r).seatReleased v.antenna v.group v.seat r.listen).setRec i none).replied l 0x09 tag .ok [])) ∧
    (∀ v, r.handoff = none → r.serving = some v →
      (if r.key = .waiting then (s.ant v.antenna).queue.filter (fun j => j != i) else (s.ant v.antenna).queue) = [] →
      exec (.detach l tag h) s = .next
        (((clearBlocked v.antenna (s.modAnt v.antenna fun x =>
          { x.vacated s.params v.group v.seat r.listen with queue := [] })).setRec i none).replied l 0x09 tag .ok [])) ∧
    (∀ v x, s.entryOf? r = some x → x.headset = i → r.serving = some v →
      exec (.detach l tag h) s = .next
        ((depthReleaseFor (s.loweredLink r) ((((s.torn x false).queueLeft i r).seatReleased
          v.antenna v.group v.seat r.listen).setRec i none)).replied l 0x09 tag .ok [])) ∧
    (∀ x, s.entryOf? r = some x → x.headset = i → r.serving = none →
      exec (.detach l tag h) s = .next
        ((depthReleaseFor (s.loweredLink r) ((s.torn x false).setRec i none)).replied l 0x09 tag .ok [])) ∧
    (r.handoff = none → r.serving = none → exec (.detach l tag h) s = .next ((s.setRec i none).replied l 0x09 tag .ok []))

/-- LISTEN replaces the listen set and changes the carriage counts by the channels that leave and join, at the serving
antenna and at the antenna of a reserved seat, whose plans are marked due; an equal set changes nothing (R18, R58,
R59). -/
def Obligations.ListenReplacesTheSet : Prop :=
  ∀ (s : State) (l : LinkId) (tag : Byte) (h : HeadsetId) (new : ListenSet) (i : RosterIx) (r : Record),
    Ready l s → validHeadset h = true → s.findHeadset h = some i → s.rec? i = some r →
    (new = r.listen → exec (.listen l tag h new) s = .next (s.replied l 0x0B tag .ok [])) ∧
    (new ≠ r.listen →
      let recount := fun (x : Antenna) =>
        { x with planDue := true
                 carriage := Vector.ofFn fun c =>
                   if r.listen.getLsbD c.val && !new.getLsbD c.val then x.carriage.get c - 1
                   else if new.getLsbD c.val && !r.listen.getLsbD c.val then x.carriage.get c + 1
                   else x.carriage.get c }
      (∀ v, r.serving = some v → s.targetOf? r = none →
        exec (.listen l tag h new) s = .next
          (((s.modAnt v.antenna recount).setRec i (some { r with listen := new })).replied l 0x0B tag .ok [])) ∧
      (∀ v t, r.serving = some v → s.targetOf? r = some t →
        exec (.listen l tag h new) s = .next
          ((((s.modAnt v.antenna recount).modAnt t recount).setRec i (some { r with listen := new })).replied
            l 0x0B tag .ok [])) ∧
      (∀ t, r.serving = none → s.targetOf? r = some t →
        exec (.listen l tag h new) s = .next
          (((s.modAnt t recount).setRec i (some { r with listen := new })).replied l 0x0B tag .ok [])) ∧
      (r.serving = none → s.targetOf? r = none →
        exec (.listen l tag h new) s = .next ((s.setRec i (some { r with listen := new })).replied l 0x0B tag .ok [])))

/-- QUERY HEADSET reports the record byte by byte and changes nothing: its state and key by the codes of section 10.3, its
class code and profile by number, its serving seat, timers, handoff entry and reserved seat as they stand, a field that
does not apply as absent, and each candidate in list order with its blocked flag and whether it is the target candidate of
a PREPARING or MOVING entry (R19, R167). -/
def Obligations.QueryHeadsetReportsTheRecord : Prop :=
  ∀ (s : State) (l : LinkId) (tag : Byte) (h : HeadsetId) (i : RosterIx) (r : Record),
    Ready l s → validHeadset h = true → s.findHeadset h = some i → s.rec? i = some r →
    let state : Byte := match r.state with | .settled => 1 | .handing => 2 | .adrift => 3
    let key : Byte := match r.key with | .off => 0 | .on => 1 | .waiting => 2 | .pending => 3
    let number := fun (p : Profile) => match p with | .p1 => (1 : Byte) | .p2 => 2 | .p3 => 3 | .p4 => 4 | .p5 => 5
    let cls : Byte := match r.classCode with | none => 0 | some p => number p
    let serving : List Byte := match r.serving with
      | none => [0xFF, 0xFF, 0xFF]
      | some v => [byteOf v.antenna.val, byteOf v.group.val, byteOf v.seat.val]
    let serveLost : Byte := match r.serveLost with | none => 0xFF | some t => byteOf t.count
    let retain : List Byte := match r.retain with | none => [0xFF, 0xFF] | some t => bytesOfNat16 t.count
    let handoff : List Byte := match s.entryOf? r with
      | none => [0, 0xFF, 0xFF, 0xFF]
      | some x =>
        [match x.phase with | .queued => 1 | .preparing => 2 | .moving => 3, byteOf x.target.val] ++
          (match x.reserved with | none => [0xFF, 0xFF] | some (g, n) => [byteOf g.val, byteOf n.val])
    let list := r.candidates.flatMap fun c =>
      [byteOf c.antenna.val] ++ bytesOfNat16 c.f16 ++
        [byteOf c.dwell, (if c.blocked then 1 else 0) + (if s.heldTarget r = some c.antenna then 2 else 0)]
    exec (.queryHeadset l tag h) s = .next (s.replied l 0x18 tag .ok
      ([byteOf i.val, state, cls, number r.profile] ++ bytes16 r.listen ++ [key] ++ serving ++
        bytesOfNat16 r.f16s ++ [if r.weak then 1 else 0, serveLost] ++ retain ++ handoff ++
        [byteOf r.candidates.length] ++ list))

/-! ## The antennas -/

/-- ANT UP of a DOWN antenna brings it into service under the link with an empty plan at airtime BEACON, its plan due, and
clears the blocked flags naming it; of an antenna already up its owner is answered OK, any other link NOT OWNER, and
nothing changes (R25, R164). -/
def Obligations.AntUpBringsAnAntennaUp : Prop :=
  ∀ (s : State) (l : LinkId) (tag : Byte) (a : AntennaId), Ready l s →
    ((s.ant a).state = .down →
      exec (.antUp l tag (byteOf a.val)) s = .next
        ((({ s with roster := s.roster.map fun r => r.map fun r =>
            { r with candidates := r.candidates.map fun c =>
                if c.antenna = a then { c with blocked := false } else c } } : State).setAnt a
          { state := .active, owner := some l, plan := Vector.replicate 16 { seat0 := none, seat1 := none }
            airtime := s.params.beacon, carriage := Vector.replicate 16 0, queue := [], planDue := true }).replied
          l 0x01 tag .ok [64 + byteOf a.val])) ∧
    ((s.ant a).state ≠ .down → s.owner a = some l →
      exec (.antUp l tag (byteOf a.val)) s = .next
        (s.replied l 0x01 tag .ok [64 * (s.ant a).state.code + byteOf a.val])) ∧
    ((s.ant a).state ≠ .down → s.owner a ≠ some l →
      exec (.antUp l tag (byteOf a.val)) s = .next (s.replied l 0x01 tag .notOwner []))

/-- ANT DOWN by the owner takes the antenna down, then the depth releases for CL0 to CL3 (R26, R31). Going down: the
entries that target the antenna are aborted, oldest first, with return and their reserved seats dropped (R27); then each
headset whose handoff is MOVING away, in roster order, goes ADRIFT with its reservation, the MOVE no longer due (R28);
then every other headset served there, in roster order, goes ADRIFT, its QUEUED or PREPARING handoff aborted without
return (R29); at last the antenna is DOWN with no owner, plan, carriage, queue or notice (R30). With no handoff in the
table the state is written out whole: every headset served at the antenna goes ADRIFT, its ON or WAITING key PENDING, its
retain timer at 0, and no other record and no other antenna changes (R13). That a headset which has already gone ADRIFT
is not taken again is log entry 10; that the depth releases are taken for all of CL0 to CL3, not only for the links whose
depth fell (R31), is the model's reading, log entry 11. -/
def Obligations.AntDownTakesAnAntennaDown : Prop :=
  (∀ (s : State) (l : LinkId) (tag : Byte) (a : AntennaId), Ready l s → (s.ant a).state ≠ .down →
    s.owner a = some l →
    exec (.antDown l tag (byteOf a.val)) s = .next
      ((depthReleaseAll (goDown a s)).replied l 0x02 tag .ok [byteOf a.val]) ∧
    (s.handoffs = [] →
      exec (.antDown l tag (byteOf a.val)) s = .next
        ((({ s with roster := s.roster.map fun r => r.map fun r => if servedAt r a then r.lost else r } : State).setAnt a
          { state := .down, owner := none, plan := Vector.replicate 16 { seat0 := none, seat1 := none }, airtime := 0
            carriage := Vector.replicate 16 0, queue := [], planDue := false }).replied l 0x02 tag .ok
          [byteOf a.val]))) ∧
  (∀ (s : State) (a : AntennaId), TableInOrder s →
    (∀ older x newer, s.handoffs = older ++ x :: newer → (∀ y ∈ older, y.target ≠ a) → x.target = a →
      goDown a s = goDown a (s.recalled x true)) ∧
    ((∀ y ∈ s.handoffs, y.target ≠ a) →
      let away := fun (j : RosterIx) => ∃ q y, s.rec? j = some q ∧ servedAt q a = true ∧ s.entryOf? q = some y ∧
        y.phase = .moving ∧ y.source = a
      (∀ i r x, s.rec? i = some r → servedAt r a = true → s.entryOf? r = some x → x.phase = .moving → x.source = a →
        (∀ j, j < i → ¬ away j) →
        goDown a s = goDown a ((s.gone i).modEntry x.num fun y => { y with moveDue := false })) ∧
      ((∀ j, ¬ away j) →
        (∀ i r, s.rec? i = some r → servedAt r a = true → (∀ j q, j < i → s.rec? j = some q → servedAt q a = false) →
          (r.handoff = none → goDown a s = goDown a (s.gone i)) ∧
          (∀ x, s.entryOf? r = some x → x.headset = i → goDown a s = goDown a ((s.torn x false).gone i))) ∧
        ((∀ i r, s.rec? i = some r → servedAt r a = false) → goDown a s = s.setAnt a Antenna.down))))

/-- ANT DRAIN by the owner of an ACTIVE antenna: the antenna is DRAINING and its plan due; the entries that target it are
aborted, oldest first, with return; each headset served there, in roster order, is evaluated once with the dwell waived;
without a seat left the antenna is CLOSED; then the depth releases for CL0 to CL3 are taken (R33, R34, R36, R164). With no
handoff in the table and no served headset that holds a candidate the state is written out whole. Repeated, ANT DRAIN
changes nothing. ANT REOPEN by the owner returns a DRAINING or CLOSED antenna to ACTIVE with its plan kept and marked due;
of an ACTIVE one it changes nothing (R37). That the depth releases are taken for all of CL0 to CL3, not only for the links
whose depth fell (R31, R33), is the model's reading, log entry 11. -/
def Obligations.AntDrainAndAntReopen : Prop :=
  (∀ (s : State) (l : LinkId) (tag : Byte) (a : AntennaId), Ready l s → s.owner a = some l →
    ((s.ant a).state = .active →
      let recalled := abortInbound .released a (s.modAnt a fun x => { x with state := .draining, planDue := true })
      let walked := (List.finRange 192).foldl (fun t i =>
        match t.rec? i with
        | none => t
        | some r => if servedAt r a = true then evaluate true i t else t) recalled
      let ended := depthReleaseAll (walked.modAnt a fun x =>
        if x.state = .draining ∧ planEmpty x.plan = true then { x with state := .closed, planDue := true } else x)
      exec (.antDrain l tag (byteOf a.val)) s = .next
        (ended.replied l 0x03 tag .ok [64 * (ended.ant a).state.code + byteOf a.val])) ∧
    ((s.ant a).state = .active → s.handoffs = [] →
      (∀ i r, s.rec? i = some r → servedAt r a = true → r.candidates = []) →
      exec (.antDrain l tag (byteOf a.val)) s = .next
        ((s.modAnt a fun x =>
          { x with state := if planEmpty x.plan then .closed else .draining, planDue := true }).replied l 0x03 tag .ok
            [(if planEmpty (s.ant a).plan then 192 else 128) + byteOf a.val])) ∧
    ((s.ant a).state = .draining ∨ (s.ant a).state = .closed →
      exec (.antDrain l tag (byteOf a.val)) s = .next
        (s.replied l 0x03 tag .ok [64 * (s.ant a).state.code + byteOf a.val])) ∧
    ((s.ant a).state = .draining ∨ (s.ant a).state = .closed →
      exec (.antReopen l tag (byteOf a.val)) s = .next
        ((s.modAnt a fun x => { x with state := .active, planDue := true }).replied l 0x04 tag .ok
          [64 + byteOf a.val])) ∧
    ((s.ant a).state = .active →
      exec (.antReopen l tag (byteOf a.val)) s = .next (s.replied l 0x04 tag .ok [64 + byteOf a.val]))) ∧
  (∀ (s : State) (a : AntennaId), TableInOrder s →
    (∀ older x newer, s.handoffs = older ++ x :: newer → (∀ y ∈ older, y.target ≠ a) → x.target = a →
      abortInbound .released a s = abortInbound .released a (s.recalled x false)) ∧
    ((∀ y ∈ s.handoffs, y.target ≠ a) → abortInbound .released a s = s))

/-- CARD RESTART takes every antenna the link owns down as ANT DOWN does, in ascending ID, then the depth releases for CL0
to CL3; the reply carries how many antennas it owned (R31, R38, R164). With no handoff in the table the state is written
out whole: those antennas are DOWN, every headset served there ADRIFT, and nothing else changes. That the depth releases
are taken for all of CL0 to CL3, not only for the links whose depth fell (R31), is the model's reading, log entry 11. -/
def Obligations.CardRestartTakesItsAntennasDown : Prop :=
  ∀ (s : State) (l : LinkId) (tag : Byte), Ready l s →
    (let owned := (List.finRange 64).filter fun a => s.owner a == some l
     exec (.cardRestart l tag) s = .next
      ((depthReleaseAll (owned.foldl (fun t a => goDown a t) s)).replied l 0x05 tag .ok [byteOf owned.length])) ∧
    (s.handoffs = [] →
      exec (.cardRestart l tag) s = .next
        (({ s with
          roster := s.roster.map fun r => r.map fun r =>
            match r.serving with
            | none => r
            | some v => if s.owner v.antenna = some l then r.lost else r
          antennas := s.antennas.map fun x => if x.owner = some l then Antenna.down else x } : State).replied l 0x05 tag
          .ok [byteOf (s.antennas.toList.filter fun x => x.owner == some l).length]))

/-- What the antenna requests and LEVELS refuse, with no effect: an antenna above 63 is BAD FIELD; a DOWN antenna is
WRONG STATE to ANT DRAIN and ANT REOPEN, OK to ANT DOWN and NOT OWNER to LEVELS; an antenna of another link is NOT OWNER.
LEVELS is BAD FIELD also for no pair, more than 24, or an invalid headset ID, and always carries its two counts, 0 when
refused (R24, R78, R163). -/
def Obligations.AntennaRequestsAreChecked : Prop :=
  ∀ (s : State) (l : LinkId) (tag : Byte), Ready l s →
    (∀ b : Byte, 63 < b.toNat →
      exec (.antUp l tag b) s = .next (s.replied l 0x01 tag .badField []) ∧
      exec (.antDown l tag b) s = .next (s.replied l 0x02 tag .badField []) ∧
      exec (.antDrain l tag b) s = .next (s.replied l 0x03 tag .badField []) ∧
      exec (.antReopen l tag b) s = .next (s.replied l 0x04 tag .badField []) ∧
      exec (.queryAntenna l tag b) s = .next (s.replied l 0x19 tag .badField [])) ∧
    (∀ a : AntennaId, (s.ant a).state = .down →
      exec (.antDown l tag (byteOf a.val)) s = .next (s.replied l 0x02 tag .ok [byteOf a.val]) ∧
      exec (.antDrain l tag (byteOf a.val)) s = .next (s.replied l 0x03 tag .wrongState []) ∧
      exec (.antReopen l tag (byteOf a.val)) s = .next (s.replied l 0x04 tag .wrongState [])) ∧
    (∀ a : AntennaId, (s.ant a).state ≠ .down → s.owner a ≠ some l →
      exec (.antDown l tag (byteOf a.val)) s = .next (s.replied l 0x02 tag .notOwner []) ∧
      exec (.antDrain l tag (byteOf a.val)) s = .next (s.replied l 0x03 tag .notOwner []) ∧
      exec (.antReopen l tag (byteOf a.val)) s = .next (s.replied l 0x04 tag .notOwner [])) ∧
    (∀ (b : Byte) (pairs : List (HeadsetId × Byte)),
      (63 < b.toNat ∨ pairs = [] ∨ 24 < pairs.length ∨ (∃ p ∈ pairs, validHeadset p.1 = false) →
        exec (.levels l tag b pairs) s = .next (s.replied l 0x0A tag .badField [0, 0])) ∧
      (∀ a : AntennaId, b = byteOf a.val → pairs ≠ [] → pairs.length ≤ 24 → (∀ p ∈ pairs, validHeadset p.1 = true) →
        s.owner a ≠ some l →
        exec (.levels l tag b pairs) s = .next (s.replied l 0x0A tag .notOwner [0, 0])))

/-- QUERY ANTENNA answers any link with the plan fields and changes nothing; the fields are the antenna byte, whose bits
7 and 6 are the state code of section 10.3, the frame number, the airtime used, the carriage set, which holds the
channels whose count is not 0, the group count, and for each non-empty group in ascending index a group record: the
index, the seat count, and for each seat in ascending number the headset ID and a flags byte of reserved, keyed, seat
number and profile (R39, R59, R168). -/
def Obligations.QueryAntennaReportsThePlan : Prop :=
  ∀ (s : State) (l : LinkId) (tag : Byte) (a : AntennaId), Ready l s →
    let plan := (s.ant a).plan
    let seat := fun (n : Nat) (x : Seat) =>
      match s.rec? x.headset with
      | none => ([] : List Byte)
      | some r => bytes24 r.id ++
        [byteOf ((if x.kind = .reserved then 128 else 0) + (if x.burst = r.profile.talkBurst then 64 else 0) + 16 * n +
          r.profile.number)]
    let group := fun (g : GroupIx) =>
      let seats := (plan.get g).seat0.toList.map (seat 0) ++ (plan.get g).seat1.toList.map (seat 1)
      if (plan.get g).isEmpty then [] else byteOf g.val :: byteOf seats.length :: seats.flatten
    exec (.queryAntenna l tag (byteOf a.val)) s = .next (s.replied l 0x19 tag .ok (planFields s a)) ∧
    let state : Byte := match (s.ant a).state with | .down => 0 | .active => 1 | .draining => 2 | .closed => 3
    ∃ (set : ListenSet) (groups : List Byte),
      planFields s a = [64 * state + byteOf a.val] ++ bytes16 s.frameNumber ++
        bytesOfNat16 (s.ant a).airtime ++ bytes16 set ++ [byteOf (plan.toList.filter fun g => !g.isEmpty).length] ++
        groups ∧
      (∀ c : Fin 16, set.getLsbD c.val = true ↔ (s.ant a).carriage.get c ≠ 0) ∧
      groups.length = 2 * (plan.toList.filter fun g => !g.isEmpty).length +
        4 * (plan.toList.map fun g => g.seat0.toList.length + g.seat1.toList.length).sum ∧
      ((∀ g n x, (plan.get g).seat n = some x → s.rec? x.headset ≠ none) →
        groups = (List.finRange 16).flatMap group)

/-! ## Talk keys -/

/-- KEY on for a SETTLED headset with its key OFF: granted where the re-placement succeeds, with the room-made effects
where the seat moved out of its group; else WAITING at the tail of the serving antenna's queue while that holds fewer
than four; else QUEUE FULL, the press not kept (R67, R166). -/
def Obligations.KeyOnIsTriedByRePlacement : Prop :=
  ∀ (s : State) (l : LinkId) (tag : Byte) (h : HeadsetId) (i : RosterIx) (r : Record) (v : Serving),
    Ready l s → validHeadset h = true → s.findHeadset h = some i → s.rec? i = some r → r.state = .settled →
    r.key = .off → r.serving = some v → s.owner v.antenna = some l →
    (∀ t moved, rePlace? s i = some (t, moved) →
      exec (.keyOn l tag h) s = .next
        ((if moved then roomMade v.antenna t else t).replied l 0x0C tag .granted [1, 0])) ∧
    (rePlace? s i = none → (s.ant v.antenna).queue.length < 4 → i ∉ (s.ant v.antenna).queue →
      exec (.keyOn l tag h) s = .next
        (((s.modAnt v.antenna fun x => { x with queue := x.queue ++ [i] }).setRec i
          (some { r with key := .waiting })).replied l 0x0C tag .waiting
          [2, byteOf ((s.ant v.antenna).queue.length + 1)])) ∧
    (rePlace? s i = none → 4 ≤ (s.ant v.antenna).queue.length →
      exec (.keyOn l tag h) s = .next (s.replied l 0x0C tag .queueFull [0, 0]))

/-- KEY on for a headset that is HANDING or ADRIFT with its key OFF is DEFERRED and makes the key PENDING; KEY on for a key
that is ON, WAITING or PENDING changes nothing and carries the key state, and the place in the queue while WAITING (R68,
R166). -/
def Obligations.KeyOnIsDeferredOrRepeated : Prop :=
  ∀ (s : State) (l : LinkId) (tag : Byte) (h : HeadsetId) (i : RosterIx) (r : Record),
    Ready l s → validHeadset h = true → s.findHeadset h = some i → s.rec? i = some r →
    (r.state = .adrift ∨ ∃ v, r.serving = some v ∧ s.owner v.antenna = some l) →
    (r.key = .off → r.state ≠ .settled →
      exec (.keyOn l tag h) s = .next ((s.setRec i (some { r with key := .pending })).replied l 0x0C tag .deferred
        [3, 0])) ∧
    (r.key = .on → exec (.keyOn l tag h) s = .next (s.replied l 0x0C tag .ok [1, 0])) ∧
    (r.key = .pending → exec (.keyOn l tag h) s = .next (s.replied l 0x0C tag .ok [3, 0])) ∧
    (∀ v before behind, r.key = .waiting → r.serving = some v → (s.ant v.antenna).queue = before ++ i :: behind →
      i ∉ before →
      exec (.keyOn l tag h) s = .next (s.replied l 0x0C tag .ok [2, byteOf (before.length + 1)]))

/-- KEY off: an OFF key stays; a PENDING key becomes OFF; a WAITING headset leaves the queue, the others keeping their
order; an ON key's serving seat is lowered in place with the room-made effects there, and then a reserved seat that
carries the talk burst, with those at the target (R52, R55, R69, R71, R166; the order of the two is log entry 17, that a
seat at the listen burst stays as it is log entry 12); where nothing waits and no handoff entry is
held that state is written out whole. -/
def Obligations.KeyOffReleasesTheKey : Prop :=
  ∀ (s : State) (l : LinkId) (tag : Byte) (h : HeadsetId) (i : RosterIx) (r : Record),
    Ready l s → validHeadset h = true → s.findHeadset h = some i → s.rec? i = some r →
    (r.state = .adrift ∨ ∃ v, r.serving = some v ∧ s.owner v.antenna = some l) →
    (r.key = .off → exec (.keyOff l tag h) s = .next (s.replied l 0x0C tag .ok [0, 0])) ∧
    (r.key = .pending →
      exec (.keyOff l tag h) s = .next ((s.setRec i (some { r with key := .off })).replied l 0x0C tag .ok [0, 0])) ∧
    (∀ v, r.key = .waiting → r.serving = some v →
      exec (.keyOff l tag h) s = .next
        (((s.modAnt v.antenna fun x => { x with queue := x.queue.filter fun j => j != i }).setRec i
          (some { r with key := .off })).replied l 0x0C tag .ok [0, 0])) ∧
    (∀ v, r.key = .on → r.serving = some v →
      let t := s.burstLowered v.antenna v.group v.seat r.profile
      let run := fun (u : State) =>
        exec (.keyOff l tag h) s = .next
          ((u.modRec i fun q => { q with key := .off }).replied l 0x0C tag .ok [0, 0])
      ((∀ x, s.entryOf? r = some x → x.reserved = none) → run t) ∧
      (∀ x g n, s.entryOf? r = some x → x.reserved = some (g, n) →
        (t.keyedSeat x.target g n r.profile = true → run (t.burstLowered x.target g n r.profile)) ∧
        (t.keyedSeat x.target g n r.profile = false → run t))) ∧
    (∀ v seat, r.key = .on → r.serving = some v → r.handoff = none → (s.ant v.antenna).queue = [] →
      ((s.ant v.antenna).plan.get v.group).seat v.seat = some seat → seat.burst = r.profile.talkBurst →
      exec (.keyOff l tag h) s = .next
        (((clearBlocked v.antenna (s.modAnt v.antenna fun x =>
          x.withPlan s.params (putSeat x.plan v.group v.seat
            (some { seat with burst := r.profile.listenBurst })))).setRec i
          (some { r.unblock v.antenna with key := .off })).replied l 0x0C tag .ok [0, 0]))

/-! ## Settings and the timebase's requests -/

/-- SET of a parameter that has no check: from another link than the selected one NOT PERMITTED with the value in force;
from the selected link the value clamped to the range is stored, OK or OK CLAMPED, and nothing else changes. A number that
names no parameter is BAD FIELD. The numbers, the ranges and the stored value that each number reads and writes are the
table of R173; 0 and 15 to 255 name no parameter (R171, R173, R175, R178). -/
def Obligations.SetStoresTheClampedValue : Prop :=
  (∀ (p : Params) (v : Nat),
    let row := fun (number : Byte) (q : Param) (low high stored : Nat) (after : Params) =>
      Param.ofNumber? number = some q ∧ q.low = low ∧ q.high = high ∧ p.read q = stored ∧ p.write q v = after
    row 1 .filterWeight 1 16 p.filterWeight { p with filterWeight := v } ∧
    row 2 .margin 0 63 p.margin { p with margin := v } ∧
    row 3 .dwell 1 32 p.dwell { p with dwell := v } ∧
    row 4 .lossLevel 0 255 p.lossLevel { p with lossLevel := v } ∧
    row 5 .lossHyst 0 63 p.lossHyst { p with lossHyst := v } ∧
    row 6 .candAge 1 255 p.candAge { p with candAge := v } ∧
    row 7 .serveLost 1 255 p.serveLost { p with serveLost := v } ∧
    row 8 .retain 1 65535 p.retain { p with retain := v } ∧
    row 9 .prepTime 1 255 p.prepTime { p with prepTime := v } ∧
    row 10 .moveTime 1 255 p.moveTime { p with moveTime := v } ∧
    row 11 .handoffDepth 1 4 p.handoffDepth { p with handoffDepth := v } ∧
    row 12 .beacon 100 1000 p.beacon { p with beacon := v } ∧
    row 13 .guardTime 10 200 p.guardTime { p with guardTime := v } ∧
    row 14 .reserve 0 2000 p.reserve { p with reserve := v }) ∧
  (∀ number : Byte, Param.ofNumber? number = none ↔ number = 0 ∨ 15 ≤ number.toNat) ∧
  ∀ (s : State) (l : LinkId) (tag number : Byte) (value : BitVec 16), Ready l s →
    (Param.ofNumber? number = none →
      exec (.set l tag number value) s = .next (s.replied l 0x20 tag .badField [])) ∧
    (∀ q, Param.ofNumber? number = some q → l ≠ s.settingsLink →
      exec (.set l tag number value) s = .next
        (s.replied l 0x20 tag .notPermitted (number :: bytesOfNat16 (s.params.read q)))) ∧
    (∀ q v, Param.ofNumber? number = some q → l = s.settingsLink → plainParameter number = true →
      v = max q.low (min q.high value.toNat) →
      exec (.set l tag number value) s = .next
        (({ s with params := s.params.write q v } : State).replied l 0x20 tag (if v = value.toNat then .ok else .okClamped)
          (number :: bytesOfNat16 v)))

/-- SET of BEACON, GUARD or RESERVE: from another link than the selected one NOT PERMITTED; a value under which some up
antenna's airtime would exceed the limit is OVER LIMIT and changes nothing; otherwise the value is stored, and each antenna
that is up, taken in ascending ID (their order shows nowhere, R63), has its airtime recomputed and its plan marked due, and
takes the room-made effects where its room has grown (R55, R63). Where no key waits the state is written out whole: no seat
moves, and the blocked flags naming an antenna whose room has grown are cleared. The value already stored is answered and
changes nothing (R63, R171, R175, R176). -/
def Obligations.AirtimeParametersAreChecked : Prop :=
  ∀ (s : State) (l : LinkId) (tag : Byte) (p : AirtimeParam) (value : BitVec 16) (q : Param) (v : Nat), Ready l s →
    q = (match p with | .beacon => .beacon | .guardTime => .guardTime | .reserve => .reserve) →
    v = max q.low (min q.high value.toNat) →
    let number : Byte := match p with | .beacon => 12 | .guardTime => 13 | .reserve => 14
    let new := s.params.write q v
    let status : Status := if v = value.toNat then .ok else .okClamped
    (l ≠ s.settingsLink →
      exec (.setAirtimeParameter l tag p value) s = .next
        (s.replied l 0x20 tag .notPermitted (number :: bytesOfNat16 (s.params.read q)))) ∧
    (l = s.settingsLink → v = s.params.read q →
      exec (.setAirtimeParameter l tag p value) s = .next
        (s.replied l 0x20 tag status (number :: bytesOfNat16 v))) ∧
    (l = s.settingsLink → v ≠ s.params.read q →
      (∃ a, (s.ant a).state ≠ .down ∧ 10000 - new.reserve < airtimeOf new (s.ant a).plan) →
      exec (.setAirtimeParameter l tag p value) s = .next
        (s.replied l 0x20 tag .overLimit (number :: bytesOfNat16 (s.params.read q)))) ∧
    (l = s.settingsLink → v ≠ s.params.read q →
      (∀ a, (s.ant a).state ≠ .down → airtimeOf new (s.ant a).plan ≤ 10000 - new.reserve) →
      let grown := (List.finRange 64).foldl (fun (t : State) a =>
        if (t.ant a).state = .down then t
        else
          let u := t.modAnt a fun x => { x with airtime := airtimeOf new x.plan, planDue := true }
          if ((10000 - s.params.reserve : Nat) : Int) - (t.ant a).airtime <
              ((10000 - new.reserve : Nat) : Int) - airtimeOf new (t.ant a).plan
          then roomMade a u else u) ({ s with params := new } : State)
      exec (.setAirtimeParameter l tag p value) s = .next
        (grown.replied l 0x20 tag status (number :: bytesOfNat16 v))) ∧
    (l = s.settingsLink → v ≠ s.params.read q →
      (∀ a, (s.ant a).state ≠ .down → airtimeOf new (s.ant a).plan ≤ 10000 - new.reserve) →
      (∀ a, (s.ant a).queue = []) →
      exec (.setAirtimeParameter l tag p value) s = .next
        (({ s with
          params := new
          antennas := s.antennas.map fun x =>
            if x.state = .down then x else { x with airtime := airtimeOf new x.plan, planDue := true }
          roster := s.roster.map fun r => r.map fun r =>
            { r with candidates := r.candidates.map fun c =>
                if (s.ant c.antenna).state ≠ .down ∧
                    ((10000 - s.params.reserve : Nat) : Int) - (s.ant c.antenna).airtime <
                      ((10000 - new.reserve : Nat) : Int) - airtimeOf new (s.ant c.antenna).plan
                then { c with blocked := false } else c } } : State).replied l 0x20 tag status (number :: bytesOfNat16 v)))

/-- SET of HANDOFF_DEPTH: from another link than the selected one NOT PERMITTED; a new value below some link's depth is
WRONG STATE and changes nothing; otherwise the value is stored, and a raise is followed by the depth releases for CL0 to
CL3 in turn, before the reply; an equal or lower value starts nothing and returns nothing to QUEUED (R113, R171, R175,
R177). Where no entry is QUEUED a raise, too, changes nothing else. -/
def Obligations.HandoffDepthIsChecked : Prop :=
  ∀ (s : State) (l : LinkId) (tag : Byte) (value : BitVec 16) (v : Nat), Ready l s →
    v = max 1 (min 4 value.toNat) →
    (l ≠ s.settingsLink →
      exec (.setHandoffDepth l tag value) s = .next
        (s.replied l 0x20 tag .notPermitted (11 :: bytesOfNat16 s.params.handoffDepth))) ∧
    (l = s.settingsLink → v ≠ s.params.handoffDepth → (∃ k, v < s.depth k) →
      exec (.setHandoffDepth l tag value) s = .next
        (s.replied l 0x20 tag .wrongState (11 :: bytesOfNat16 s.params.handoffDepth))) ∧
    (l = s.settingsLink → (∀ k, s.depth k ≤ v) →
      let stored : State := { s with params := { s.params with handoffDepth := v } }
      let run := fun (t : State) =>
        exec (.setHandoffDepth l tag value) s = .next
          (t.replied l 0x20 tag (if v = value.toNat then .ok else .okClamped) (11 :: bytesOfNat16 v))
      (v ≤ s.params.handoffDepth → run stored) ∧
      (s.params.handoffDepth < v →
        run (depthRelease 3 (depthRelease 2 (depthRelease 1 (depthRelease 0 stored)))))) ∧
    (l = s.settingsLink → (∀ k, s.depth k ≤ v) → (∀ x ∈ s.handoffs, x.phase ≠ .queued) →
      exec (.setHandoffDepth l tag value) s = .next
        (({ s with params := { s.params with handoffDepth := v } } : State).replied l 0x20 tag
          (if v = value.toNat then .ok else .okClamped) (11 :: bytesOfNat16 v)))

/-- GET from any link answers OK with the parameter number and the stored value, and BAD FIELD with the common part alone
for a number that names no parameter; it changes no state (R174). -/
def Obligations.GetReadsTheStore : Prop :=
  ∀ (s : State) (l : LinkId) (tag number : Byte), Ready l s →
    (Param.ofNumber? number = none ↔ number = 0 ∨ 15 ≤ number.toNat) ∧
    (Param.ofNumber? number = none → exec (.get l tag number) s = .next (s.replied l 0x21 tag .badField [])) ∧
    (∀ q, Param.ofNumber? number = some q →
      exec (.get l tag number) s = .next (s.replied l 0x21 tag .ok (number :: bytesOfNat16 (s.params.read q))))

/-- TRIM from another link than the selected one is NOT PERMITTED and leaves T; from the selected link a value in −2048 to
2047 is stored, OK, one below as −2048 and one above as 2047, OK CLAMPED, and nothing else changes. QUERY CLOCK answers
any link with the frame number, T and A, and changes nothing (R136, R137, R142, R169). -/
def Obligations.TrimAndQueryClock : Prop :=
  ∀ (s : State) (l : LinkId) (tag : Byte), Ready l s →
    (∀ value : BitVec 16, l ≠ s.settingsLink →
      exec (.trim l tag value) s = .next (s.replied l 0x22 tag .notPermitted (bytes16 (BitVec.ofInt 16 s.trim)))) ∧
    (∀ value : BitVec 16, l = s.settingsLink → -2048 ≤ value.toInt → value.toInt ≤ 2047 →
      exec (.trim l tag value) s = .next (({ s with trim := value.toInt } : State).replied l 0x22 tag .ok (bytes16 value))) ∧
    (∀ value : BitVec 16, l = s.settingsLink → value.toInt < -2048 →
      exec (.trim l tag value) s = .next (({ s with trim := -2048 } : State).replied l 0x22 tag .okClamped [0xF8, 0x00])) ∧
    (∀ value : BitVec 16, l = s.settingsLink → 2047 < value.toInt →
      exec (.trim l tag value) s = .next (({ s with trim := 2047 } : State).replied l 0x22 tag .okClamped [0x07, 0xFF])) ∧
    exec (.queryClock l tag) s = .next
      (s.replied l 0x1A tag .ok
        (bytes16 s.frameNumber ++ bytes16 (BitVec.ofInt 16 s.trim) ++ bytes24 (BitVec.ofInt 24 s.acc)))

/-- CLEAR FLAGS clears the requesting link's flags whose mask bit is 1, keeps the others, ignores bit 7, and the reply's
header carries the flags as they stand afterwards (R155, R172). -/
def Obligations.ClearFlagsClearsTheMask : Prop :=
  ∀ (s : State) (l : LinkId) (tag mask : Byte), Ready l s →
    ∃ f : BitVec 7,
      (∀ k : Fin 7, f.getLsbD k.val = ((s.link l).flags.getLsbD k.val && !mask.getLsbD k.val)) ∧
      exec (.clearFlags l tag mask) s = .next
        (s.modLink l fun x =>
          { x with flags := f, reply := some ([0xA3, tag, 0x00, f.setWidth 8] ++ bytes16 s.frameNumber) })

/-! ## Requests on a link -/

/-- Every request executed leaves exactly one reply, which opens with the reply kind (the request kind plus 0x80, or 0xFF
for a kind byte that names no request), the request's tag, the status by the codes of section 10.3, the link's flags after
the request and the frame number; a request of unknown kind is answered UNKNOWN KIND with this common part alone and has no other effect (R150,
R151, R159, R160). A body of a known kind whose length is not the one its kind requires is answered BAD FIELD, LEVELS with
its two counts 0, with no other effect and before any check of the kind's own rule, whatever link sends it (R160, R163);
so is a KEY whose key field is neither 0 nor 1 (R66, R161). That the bytes come with the character that ends the message
is the row REQUEST_RECEIVED; awaitHigh, false once a character has arrived, is the model's (log entry 15). -/
def Obligations.EveryRequestGetsOneReply : Prop :=
  (∀ status : Status, status.code =
    match status with
    | .ok => 0x00
    | .okClamped => 0x01
    | .granted => 0x02
    | .waiting => 0x03
    | .deferred => 0x04
    | .unknownKind => 0x10
    | .badField => 0x11
    | .notOwner => 0x12
    | .notPermitted => 0x13
    | .wrongState => 0x14
    | .rosterFull => 0x15
    | .frameFull => 0x16
    | .alreadySeated => 0x17
    | .noSuchHeadset => 0x18
    | .stale => 0x19
    | .queueFull => 0x1A
    | .overLimit => 0x1B) ∧
  (∀ (c : Instr) (l : LinkId) (q : Request) (s : State), Ready l s → requestOf c = some (l, q) →
    ∃ (t : State) (status : Status) (fields : List Byte), exec c s = .next t ∧
      (t.link l).reply = some ([if q.ask = .unknown then 0xFF else q.kind + 0x80, q.tag, status.code,
        (t.link l).flagsByte] ++ bytes16 s.frameNumber ++ fields) ∧
      (t.link l).slots = [] ∧ (t.link l).asm = (s.link l).asm ∧ (t.link l).tx = (s.link l).tx) ∧
  (∀ (s : State) (l : LinkId) (kind tag : Byte), Ready l s → kind ∉ requestKinds →
    exec (.unknownKind l kind tag) s = .next (s.modLink l fun x =>
      { x with reply := some ([0xFF, tag, 0x10, x.flagsByte] ++ bytes16 s.frameNumber) })) ∧
  (∀ (s : State) (l : LinkId) (kind tag : Byte) (fields : List Byte), kind ∈ requestKinds →
    lengthFits (kind :: tag :: fields) = false ∨
      kind = 0x0C ∧ (∃ h : HeadsetId, ∃ key : Byte, fields = bytes24 h ++ [key] ∧ key ≠ 0x00 ∧ key ≠ 0x01) →
    let counts : List Byte := if kind = 0x0A then [0, 0] else []
    execute l (Request.ofBody (kind :: tag :: fields)) s = s.replied l kind tag .badField counts ∧
    (∀ (b sum : Byte), Ready l s → (s.link l).asm = .check (kind :: tag :: fields) sum → sum + b = 0 →
      exec (.requestReceived l b) s = .next
        ((s.modLink l fun x => { x with awaitHigh := false, asm := .hunt }).replied l kind tag .badField counts)))

/-- A request that arrives while the link's reply slot is full enters the free slot behind those waiting and is not
executed; with both slots full it is discarded, OVERRUN is latched and nothing else changes (R149, R150). -/
def Obligations.RequestsWaitAndOverrun : Prop :=
  ∀ (c : Instr) (l : LinkId) (q : Request) (s : State), requestOf c = some (l, q) → s.resetHeld = false → Quiet s →
    ((s.link l).reply ≠ none → (s.link l).slots.length < 2 →
      exec c s = .next (s.modLink l fun x => { x with slots := x.slots ++ [q] })) ∧
    (2 ≤ (s.link l).slots.length →
      exec c s = .next (s.modLink l fun x => { x with flags := x.flags ||| 4#7 }))

/-- A good character in HUNT begins a message when it is 0xC3 and is ignored when it is not; in BODY it is stored and
added to the running sum, and after the Nth byte the check byte is awaited (R145). The field awaitHigh, false once a
character has arrived, is the model's (log entry 15). -/
def Obligations.CharactersAreAssembled : Prop :=
  ∀ (s : State) (l : LinkId) (b : Byte), s.resetHeld = false → Quiet s →
    ((s.link l).asm = .hunt →
      exec (.goodCharacter l b) s = .next
        (s.modLink l fun x => { x with awaitHigh := false, asm := if b = 0xC3 then .length else .hunt })) ∧
    (∀ n bytes sum, (s.link l).asm = .body n bytes sum →
      exec (.goodCharacter l b) s = .next
        (s.modLink l fun x =>
          { x with
            awaitHigh := false
            asm := if bytes.length + 1 < n then .body n (bytes ++ [b]) (sum + b)
                   else .check (bytes ++ [b]) (sum + b) }))

/-- In LENGTH a length byte N of 2 to 200 is stored with the running sum N and no body byte, and the assembler enters BODY;
0, 1 and 201 to 255 latch MALFORMED, discard the message and the assembler enters HUNT (R146). That the GOOD_CHARACTER and
MALFORMED rows are one event here is log entry 7; the field awaitHigh, false once a character has arrived, is the model's
(log entry 15). -/
def Obligations.LengthBytesAreChecked : Prop :=
  ∀ (s : State) (l : LinkId) (b : Byte), s.resetHeld = false → Quiet s → (s.link l).asm = .length →
    (2 ≤ b.toNat → b.toNat ≤ 200 →
      exec (.goodCharacter l b) s = .next
        (s.modLink l fun x => { x with awaitHigh := false, asm := .body b.toNat [] b })) ∧
    (b.toNat < 2 ∨ 200 < b.toNat →
      exec (.malformed l b) s = .next
        (s.modLink l fun x => { x with awaitHigh := false, asm := .hunt, flags := x.flags ||| 16#7 }) ∧
      exec (.goodCharacter l b) s = exec (.malformed l b) s)

/-- In CHECK the character is added to the running sum: with a sum of 0 modulo 256 the message is received whole and goes
to the request slots, with another sum CHECK is latched and the message discarded; in either case the assembler enters
HUNT (R148, R149). That the GOOD_CHARACTER and REQUEST_RECEIVED rows are one event here is log entry 7, that a request row
is the request received whole log entry 6; the field awaitHigh, false once a character has arrived, is the model's (log
entry 15). -/
def Obligations.CheckBytesAreChecked : Prop :=
  ∀ (s : State) (l : LinkId) (b : Byte) (bytes : List Byte) (sum : Byte), s.resetHeld = false → Quiet s →
    (s.link l).asm = .check bytes sum →
    (sum + b ≠ 0 →
      exec (.requestReceived l b) s = .next
        (s.modLink l fun x => { x with awaitHigh := false, asm := .hunt, flags := x.flags ||| 8#7 })) ∧
    (sum + b = 0 → (s.link l).reply ≠ none → (s.link l).slots.length < 2 →
      exec (.requestReceived l b) s = .next
        (s.modLink l fun x =>
          { x with awaitHigh := false, asm := .hunt, slots := x.slots ++ [Request.ofBody bytes] })) ∧
    (sum + b = 0 → (s.link l).slots.length = 2 →
      exec (.requestReceived l b) s = .next
        (s.modLink l fun x => { x with awaitHigh := false, asm := .hunt, flags := x.flags ||| 4#7 })) ∧
    (∀ (t : State) (c : Instr), sum + b = 0 → requestOf c = some (l, Request.ofBody bytes) →
      t = s.modLink l (fun x => { x with awaitHigh := false, asm := .hunt }) →
      exec (.requestReceived l b) s = exec c t) ∧
    exec (.goodCharacter l b) s = exec (.requestReceived l b) s

/-- A bad character latches PARITY or FRAMING in every assembler state and puts the assembler in HUNT; 88 bit times of
idle line in mid-message latch TRUNCATED and discard the message, and in HUNT do nothing; a line break clears the
assembler, both request slots, the reply slot, the transmitter and the flags, latches BREAK, and changes no other state
(R144, R147, R156). That the receiver then waits for RXD high is held in the field awaitHigh (log entry 15). -/
def Obligations.LineErrorsAndBreaks : Prop :=
  ∀ (s : State) (l : LinkId), s.resetHeld = false →
    exec (.badCharacter l .parity) s = .next
      (s.modLink l fun x => { x with awaitHigh := false, asm := .hunt, flags := x.flags ||| 1#7 }) ∧
    exec (.badCharacter l .framing) s = .next
      (s.modLink l fun x => { x with awaitHigh := true, asm := .hunt, flags := x.flags ||| 2#7 }) ∧
    ((s.link l).asm ≠ .hunt →
      exec (.idleTimerExpiry l) s = .next
        (s.modLink l fun x => { x with asm := .hunt, flags := x.flags ||| 32#7 })) ∧
    ((s.link l).asm = .hunt → exec (.idleTimerExpiry l) s = .next s) ∧
    (Quiet s →
      exec (.lineBreak l) s = .next
        (s.setLink l { asm := .hunt, slots := [], reply := none, tx := none, flags := 64#7, awaitHigh := true }))

/-- An idle transmitter begins, in this order of precedence: the reply; the PREPARE of the oldest entry due whose target
the link owns; the MOVE of the oldest entry due whose serving antenna the link owns; the FRAME PLAN of the lowest antenna
due that the link owns. A notice's due flag is cleared and its content read as it begins (R115, R122, R152, R153, R154,
R159, R168, R170). -/
def Obligations.TransmittersBeginInOrder : Prop :=
  ∀ (s : State) (l : LinkId), s.resetHeld = false → (s.link l).tx = none →
    (∀ body, (s.link l).reply = some body →
      exec (.replyTransmission l) s = .next
        (s.modLink l fun x => { x with tx := some { isReply := true, chars := frameMessage body } })) ∧
    ((s.link l).reply = none →
      (∀ older x newer r g n seat, s.handoffs = older ++ x :: newer →
        (∀ y ∈ older, y.prepareDue = true → s.owner y.target ≠ some l) → x.prepareDue = true →
        s.owner x.target = some l → s.rec? x.headset = some r → x.reserved = some (g, n) →
        ((s.ant x.target).plan.get g).seat n = some seat →
        let body : List Byte := [0x40, 0] ++ bytes24 r.id ++ [byteOf x.target.val, byteOf g.val, byteOf n.val] ++
          bytesOfNat16 seat.burst ++ [byteOf r.profile.number] ++ bytes16 r.listen ++ [if r.key = .on then 1 else 0]
        exec (.prepareNotice l) s = .next
          ((s.modLink l fun y => { y with tx := some { isReply := false, chars := frameMessage body } }).modEntry x.num
            fun y => { y with prepareDue := false })) ∧
      ((∀ y ∈ s.handoffs, y.prepareDue = true → s.owner y.target ≠ some l) →
        (∀ older x newer r v g n f, s.handoffs = older ++ x :: newer →
          (∀ y ∈ older, y.moveDue = true → servingOwner s y ≠ some l) → x.moveDue = true →
          s.rec? x.headset = some r → r.serving = some v → s.owner v.antenna = some l → x.reserved = some (g, n) →
          x.switchFrame = some f →
          let body : List Byte := [0x41, 0] ++ bytes24 r.id ++
            [byteOf x.source.val, byteOf x.target.val, byteOf g.val, byteOf n.val] ++ bytes16 f ++ [0]
          exec (.moveNotice l) s = .next
            ((s.modLink l fun y => { y with tx := some { isReply := false, chars := frameMessage body } }).modEntry
              x.num fun y => { y with moveDue := false })) ∧
        ((∀ y ∈ s.handoffs, y.moveDue = true → servingOwner s y ≠ some l) →
          ∀ a : AntennaId, (∀ b, b < a → (s.ant b).planDue = true → s.owner b ≠ some l) →
            (s.ant a).planDue = true → s.owner a = some l →
            exec (.framePlanNotice l) s = .next
              ((s.modLink l fun y =>
                { y with tx := some { isReply := false, chars := frameMessage ([0x42, 0] ++ planFields s a) } }).modAnt a
                fun y => { y with planDue := false }))))

/-- The end of a message on TXD: after a notice, and after a reply with no request waiting, the transmitter is idle, after
the reply with the reply slot empty, and begins at once what its row would have it begin, if anything; after the reply
with a request waiting, the oldest is executed in the same event, as its row executes it at a ready link, and its reply is
the next message sent (R150, R152, R153; that the choice falls in the same command is the model's, log entry 2). -/
def Obligations.MessageEndsFreeTheLine : Prop :=
  (∀ (s : State) (l : LinkId) (m : Message), s.resetHeld = false → Quiet s → (s.link l).tx = some m →
    let begins : List Instr := [.replyTransmission l, .prepareNotice l, .moveNotice l, .framePlanNotice l]
    (∀ t, (m.isReply = false ∧ t = s.modLink l fun x => { x with tx := none }) ∨
        (m.isReply = true ∧ (s.link l).slots = [] ∧ t = s.modLink l fun x => { x with tx := none, reply := none }) →
      (∀ c ∈ begins, exec c t ≠ .next t → exec (.messageSent l) s = exec c t) ∧
      ((∀ c ∈ begins, exec c t = .next t) → exec (.messageSent l) s = .next t)) ∧
    (∀ q rest body u, m.isReply = true → (s.link l).slots = q :: rest →
      u = execute l q (s.modLink l fun x => { x with tx := none, reply := none, slots := rest }) →
      (u.link l).reply = some body →
      exec (.messageSent l) s = .next (u.modLink l fun x =>
        { x with tx := some { isReply := true, chars := frameMessage body } }))) ∧
  (∀ (c : Instr) (l : LinkId) (q : Request) (s : State), Ready l s → requestOf c = some (l, q) →
    exec c s = .next (execute l q s))

/-- A request row is what its characters on the line do: from HUNT, the good characters of the framed body of a
well-formed request, one after another, leave the state that the request row leaves (R145 to R149, R159 to R161; that a
request row is a request arriving whole is log entry 6). -/
def Obligations.RequestRowsAreTheirCharacters : Prop :=
  ∀ (c : Instr) (l : LinkId) (q : Request) (s : State), requestOf c = some (l, q) → c.wellFormed = true →
    s.resetHeld = false → Quiet s → (s.link l).asm = .hunt → (s.link l).awaitHigh = false →
    runCommands ((frameMessage q.body).map fun b => .goodCharacter l b) s = exec c s

/-! ## The planner, the filter and the handoff engine -/

/-- Placement chooses an option of the smallest increase, a join before the open and the lower group index among equal
joins, and gives it exactly where the airtime used plus its increase keeps within the limit; a join makes the group time
the larger of the two bursts (R45, R47). -/
def Obligations.PlacementChoosesTheLeastIncrease : Prop :=
  ∀ (s : State) (a : AntennaId) (b : Nat),
    let plan := (s.ant a).plan
    let isJoin := fun (p : Placement) => ∃ m, (plan.get p.group).lone? = some (m, p.seat) ∧ p.increase = b - m.burst
    let isOpen := fun (p : Placement) => (plan.get p.group).isEmpty = true ∧ p.seat = 0 ∧
      p.increase = b + s.params.guardTime ∧ ∀ g, g < p.group → (plan.get g).isEmpty = false
    let first := fun (p : Placement) => (isJoin p ∨ isOpen p) ∧
      (∀ q, isJoin q ∨ isOpen q → p.increase ≤ q.increase) ∧
      (∀ q, isJoin q → p.increase = q.increase → isJoin p ∧ p.group ≤ q.group)
    (∀ p, place? s a b = some p →
      first p ∧ (s.ant a).airtime + p.increase ≤ 10000 - s.params.reserve) ∧
    (place? s a b = none → ∀ p, isJoin p ∨ isOpen p → 10000 - s.params.reserve < (s.ant a).airtime + p.increase) ∧
    (∀ g m n (x : Seat), (plan.get g).lone? = some (m, n) → x.burst = b →
      ((plan.get g).put n (some x)).time = max m.burst b)

/-- A re-placement is computed with the headset's seat set aside. Its options are to join a group that holds one seat of
burst m, its own beside its partner among them, at max(0, t − m), and to open its own place where it was alone, else the
lowest empty position at seat 0, at t plus GUARD. It takes an option of the smallest increase; among equals its own group
beside its partner comes first, then the other joins in ascending group index, then the open. The seat carries the talk
burst, the key is ON, the airtime used is the airtime with the seat set aside plus the increase and keeps within the
limit, and no other seat, record or antenna changes. It fails, changing nothing, exactly where no option fits (R50,
R51). -/
def Obligations.RePlacementChoosesTheLeastIncrease : Prop :=
  ∀ (s : State) (i : RosterIx) (r : Record) (v : Serving), ParamsInRange s → s.rec? i = some r → r.serving = some v →
    let aside := putSeat (s.ant v.antenna).plan v.group v.seat none
    let talk := r.profile.talkBurst
    let isJoin := fun (p : Placement) => ∃ m, (aside.get p.group).lone? = some (m, p.seat) ∧ p.increase = talk - m.burst
    let isOpen := fun (p : Placement) => p.increase = talk + s.params.guardTime ∧
      (if (aside.get v.group).isEmpty = true then p.group = v.group ∧ p.seat = v.seat
        else (aside.get p.group).isEmpty = true ∧ p.seat = 0 ∧ ∀ g, g < p.group → (aside.get g).isEmpty = false)
    let first := fun (p : Placement) => (isJoin p ∨ isOpen p) ∧
      ∀ q, isJoin q ∨ isOpen q → p.increase ≤ q.increase ∧
        (p.increase = q.increase → isJoin q →
          isJoin p ∧ (q.group = v.group → p.group = v.group) ∧ (p.group ≠ v.group → p.group ≤ q.group))
    (∀ t moved, rePlace? s i = some (t, moved) → ∃ p, first p ∧
      airtimeOf s.params aside + p.increase ≤ 10000 - s.params.reserve ∧
      moved = (p.group != v.group) ∧
      (t.ant v.antenna).airtime = airtimeOf s.params aside + p.increase ∧
      t = (s.modAnt v.antenna (Antenna.withPlan s.params (putSeat aside p.group p.seat
        (some { headset := i, kind := .serving, burst := talk })))).setRec i
          (some { r with serving := some { v with group := p.group, seat := p.seat }, key := .on })) ∧
    (rePlace? s i = none ↔
      ∀ q, isJoin q ∨ isOpen q → 10000 - s.params.reserve < airtimeOf s.params aside + q.increase)

/-- Room made at an antenna clears the blocked flags that name it in every record, then runs its queue trial (R55, R56). A
queue trial re-places the head of the queue for its talk burst; where that succeeds, with the effects of a re-placement
(R50), the head leaves the queue, the plan is due, and the trial goes on from the state so left with the next head; with an
empty queue, or a head that cannot be re-placed, it changes nothing (R57). So it ends with an empty queue or with such a
head, the headsets behind it keep their places, and no record but those granted changes (R57, R72). -/
def Obligations.QueueTrialsStopAtTheFirstFailure : Prop :=
  ∀ (s : State) (a : AntennaId),
    (roomMade a s = queueTrial a { s with
      roster := s.roster.map fun r => r.map fun r =>
        { r with candidates := r.candidates.map fun c =>
            if c.antenna = a then { c with blocked := false } else c } }) ∧
    ((s.ant a).queue = [] → queueTrial a s = s) ∧
    (∀ head rest, (s.ant a).queue = head :: rest →
      (rePlace? s head = none → queueTrial a s = s) ∧
      (∀ t moved, rePlace? s head = some (t, moved) →
        queueTrial a s = queueTrial a (t.modAnt a fun x => { x with queue := rest, planDue := true }))) ∧
    ∃ granted, (s.ant a).queue = granted ++ ((queueTrial a s).ant a).queue ∧
      ((((queueTrial a s).ant a).queue = []) ∨
        ∃ head rest, ((queueTrial a s).ant a).queue = head :: rest ∧ rePlace? (queueTrial a s) head = none) ∧
      (∀ i r, (queueTrial a s).rec? i = some r → i ∈ granted → r.key = .on) ∧
      (∀ i, i ∉ granted → (queueTrial a s).rec? i = s.rec? i) ∧
      (queueTrial a s).handoffs = s.handoffs

/-- The filter update is F16 + floor(((16 L − F16) w + 8) / 16); for a weight of 1 to 16 and values in range it lies
between the old value and the target, both included, so within 0 to 4080, and with weight 16 it is the target (R81). WEAK
follows its table (R84). -/
def Obligations.FilterAndWeak : Prop :=
  (∀ (w f : Nat) (level : Byte), 1 ≤ w → w ≤ 16 → f ≤ 4080 →
    (∀ k : Int, 16 * k ≤ ((level.toNat * 16 : Int) - f) * w + 8 → ((level.toNat * 16 : Int) - f) * w + 8 < 16 * (k + 1) →
      (filterUpdate w f level : Int) = f + k) ∧
    min f (level.toNat * 16) ≤ filterUpdate w f level ∧ filterUpdate w f level ≤ max f (level.toNat * 16) ∧
    filterUpdate w f level ≤ 4080 ∧ filterUpdate 16 f level = level.toNat * 16) ∧
  (∀ (p : Params) (f : Nat) (weak : Bool),
    (f < p.lossLevel * 16 → weakAfter p f weak = true) ∧
    (p.lossLevel * 16 ≤ f → f < (p.lossLevel + p.lossHyst) * 16 → weakAfter p f weak = weak) ∧
    (p.lossLevel * 16 ≤ f → (p.lossLevel + p.lossHyst) * 16 ≤ f → weakAfter p f weak = false))

/-- An entry that is inserted or changed is placed directly after the last other entry whose F16 is at least its own, at
the head when there is none, the others keeping their order; a list ordered by F16 stays ordered (R87, R88). -/
def Obligations.CandidatesArePlacedInOrder : Prop :=
  ∀ (c : Candidate) (l : List Candidate),
    (∃ before behind, l = before ++ behind ∧ placeCandidate c l = before ++ c :: behind ∧
      (∀ d ∈ behind, d.f16 < c.f16) ∧ (∀ d, before.getLast? = some d → c.f16 ≤ d.f16)) ∧
    (l.Pairwise (fun x y => y.f16 ≤ x.f16) → (placeCandidate c l).Pairwise (fun x y => y.f16 ≤ x.f16))

/-- A handoff is triggered: the record is HANDING, a WAITING headset leaves its key wait queue and its key becomes PENDING,
and the lowest free entry is taken with the next sequence number (R73, R107, R108). At depth, or behind an older QUEUED
entry for the target's link, the entry is QUEUED and no seat is placed. Else it starts at once: where a reserved seat at the
headset's current burst fits, it is taken, the PREPARE is due, the prepare timer at 0 and the target's candidate entry held
with its age timer stopped (R95, R110); where none fits the start fails with blocking: the target's candidate entry is
blocked at dwell 0, the entry freed, the record SETTLED with its serve-lost timer as it stands, and a PENDING key applied
(R74, R103, R110); where the list holds no entry of the target it fails without blocking. -/
def Obligations.TriggeredHandoffsStartOrQueue : Prop :=
  ∀ (s : State) (i : RosterIx) (r : Record) (v : Serving) (t : AntennaId) (k : LinkId) (e : EntryNo),
    s.rec? i = some r → r.serving = some v → (s.ant t).state = .active → s.owner t = some k →
    (∀ x ∈ s.handoffs, x.num ≠ e) → (∀ f, f < e → ∃ x ∈ s.handoffs, x.num = f) →
    let entry : Entry :=
      { num := e, headset := i, source := v.antenna, target := t, phase := .queued, reserved := none
        seq := s.seqCounter, switchFrame := none, prepTimer := none, moveTimer := none, prepareDue := false
        moveDue := false }
    let q : Record :=
      { r with key := if r.key = .waiting then .pending else r.key, state := .handing, handoff := some e }
    let u := ({ s.queueLeft i r with handoffs := s.handoffs ++ [entry], seqCounter := s.seqCounter + 1 } : State).setRec i
      (some q)
    (s.params.handoffDepth ≤ s.depth k ∨ (∃ x ∈ s.handoffs, x.phase = .queued ∧ s.owner x.target = some k) →
      trigger i t s = u) ∧
    (s.depth k < s.params.handoffDepth → (∀ x ∈ s.handoffs, x.phase = .queued → s.owner x.target ≠ some k) →
      ((∃ c ∈ r.candidates, c.antenna = t) →
        (∀ p, place? s t (if r.key = .on then r.profile.talkBurst else r.profile.listenBurst) = some p →
          trigger i t s = u.started entry q p) ∧
        (place? s t (if r.key = .on then r.profile.talkBurst else r.profile.listenBurst) = none →
          trigger i t s = u.startFailed entry q true)) ∧
      ((∀ c ∈ r.candidates, c.antenna ≠ t) → trigger i t s = u.startFailed entry q false))

/-- A trigger evaluation takes as target the first entry of the list that is eligible, an ACTIVE antenna's, not blocked
and not the target candidate, that qualifies under the record's terms and has the required dwell, unless that is waived;
it triggers nothing where there is none, where the record is not SETTLED or where the table is full (R99, R100, R104). -/
def Obligations.EvaluationsTakeTheFirstSuitable : Prop :=
  ∀ (s : State) (i : RosterIx) (r : Record) (waive : Bool), s.rec? i = some r →
    let drain := ∃ v, r.serving = some v ∧ (s.ant v.antenna).state = .draining
    let suits := fun (c : Candidate) =>
      (s.ant c.antenna).state = .active ∧ c.blocked = false ∧
      (∀ x, s.entryOf? r = some x → x.phase ≠ .queued → x.target ≠ c.antenna) ∧
      (drain → s.params.lossLevel * 16 ≤ c.f16) ∧
      (¬ drain → r.weak = true → r.f16s ≤ c.f16 ∧ s.params.lossLevel * 16 ≤ c.f16) ∧
      (¬ drain → r.weak = false → r.f16s + s.params.margin * 16 ≤ c.f16 ∧ (waive = true ∨ s.params.dwell ≤ c.dwell)) ∧
      (waive = true ∨ 1 ≤ c.dwell ∨ (¬ drain ∧ r.weak = false))
    (∀ before c behind, r.candidates = before ++ c :: behind → (∀ d ∈ before, ¬ suits d) → suits c →
      r.state = .settled → s.handoffs.length < 16 → evaluate waive i s = trigger i c.antenna s) ∧
    ((∀ c ∈ r.candidates, ¬ suits c) ∨ r.state ≠ .settled ∨ 16 ≤ s.handoffs.length → evaluate waive i s = s)

/-- A depth release for a link starts the oldest QUEUED entry for the link and then looks again, for as long as the link is
below depth and there is one: a start that succeeds takes the reserved seat and makes the entry PREPARING, one that finds
no seat blocks the target's candidate entry, one whose target is not ACTIVE or no longer a candidate does not, and either
failure frees the entry and returns its record to SETTLED; with the link at its depth or no QUEUED entry for it nothing is
done (R110, R111). It ends there, and never takes the depth above HANDOFF_DEPTH (R109). After an event that lowered some
link's depth it is taken for that link, and where all are due for CL0 to CL3 in turn (R31, R111). -/
def Obligations.DepthReleasesStartWhatTheyCan : Prop :=
  (∀ (s : State) (k : LinkId), TableInOrder s →
    (s.params.handoffDepth ≤ (depthRelease k s).depth k ∨
      ∀ x ∈ (depthRelease k s).handoffs, x.phase = .queued → (depthRelease k s).owner x.target ≠ some k) ∧
    (depthRelease k s).depth k ≤ max (s.depth k) s.params.handoffDepth ∧
    (s.params.handoffDepth ≤ s.depth k ∨ (∀ x ∈ s.handoffs, x.phase = .queued → s.owner x.target ≠ some k) →
      depthRelease k s = s) ∧
    (∀ older x newer r, s.depth k < s.params.handoffDepth → s.handoffs = older ++ x :: newer →
      (∀ y ∈ older, y.phase = .queued → s.owner y.target ≠ some k) → x.phase = .queued → s.owner x.target = some k →
      s.rec? x.headset = some r →
      ((s.ant x.target).state ≠ .active ∨ (∀ c ∈ r.candidates, c.antenna ≠ x.target) →
        depthRelease k s = depthRelease k (s.startFailed x r false)) ∧
      ((s.ant x.target).state = .active → (∃ c ∈ r.candidates, c.antenna = x.target) →
        (∀ p, place? s x.target (if r.key = .on then r.profile.talkBurst else r.profile.listenBurst) = some p →
          depthRelease k s = depthRelease k (s.started x r p)) ∧
        (place? s x.target (if r.key = .on then r.profile.talkBurst else r.profile.listenBurst) = none →
          depthRelease k s = depthRelease k (s.startFailed x r true))))) ∧
  (∀ s : State,
    depthReleaseFor none s = s ∧ (∀ k, depthReleaseFor (some k) s = depthRelease k s) ∧
    depthReleaseAll s = depthRelease 3 (depthRelease 2 (depthRelease 1 (depthRelease 0 s))))

/-! ## The whole machine -/

/-- Every command answers a next state and keeps the queue. The accumulator, the frame number and the frame length change
only at a frame boundary and by reset; the settings link and the rate only by reset and its release; the parameters and
the trim only by the execution of a request and by reset (R135, R136, R138, R173, R178, R179). -/
def Obligations.CommandsKeepWhatIsNotTheirs : Prop :=
  ∀ (c : Instr) (s : State), ∃ t : State, exec c s = .next t ∧ t.pending = s.pending ∧
    (c ≠ .frameBoundary → c ≠ .reset →
      t.acc = s.acc ∧ t.frameNumber = s.frameNumber ∧ t.frameLength = s.frameLength) ∧
    ((∀ x y, c ≠ .resetRelease x y) → c ≠ .reset →
      t.settingsLink = s.settingsLink ∧ t.rateCode = s.rateCode ∧ t.resetHeld = s.resetHeld) ∧
    (canExecute c = false → c ≠ .reset → t.params = s.params ∧ t.trim = s.trim)

/-- The four links share no state: a command on one link leaves every other link's assembler, request slots, reply slot
and flags as they were (section 9, R156). -/
def Obligations.LinksAreIndependent : Prop :=
  ∀ (c : Instr) (l m : LinkId) (s t : State), linkOf c = some l → m ≠ l → exec c s = .next t →
    (t.link m).asm = (s.link m).asm ∧ (t.link m).slots = (s.link m).slots ∧ (t.link m).reply = (s.link m).reply ∧
    (t.link m).flags = (s.link m).flags ∧ (t.link m).awaitHigh = (s.link m).awaitHigh

/-- Every step keeps the trim value in −2048 to 2047, the accumulator in 0 to 2^23 − 1 and the frame length in 159,960 to
160,040 (R135, R137). -/
def Obligations.ClockStaysInRange : Prop :=
  ∀ s t : State, ClockInRange s → step s = .next t → ClockInRange t

/-- Every step keeps at most two waiting requests on each link, and none waiting while the reply slot is empty (R150). -/
def Obligations.LinksStayInOrder : Prop :=
  ∀ s t : State, LinksInOrder s → step s = .next t → LinksInOrder t

/-- Every step keeps every parameter in its range, and at every antenna that is not DOWN the airtime used equal to BEACON
plus each non-empty group's time and GUARD, and within the limit (R44, R173). -/
def Obligations.AirtimeStaysWithinTheLimit : Prop :=
  ∀ s t : State, ParamsInRange s → AirtimeHolds s → step s = .next t → ParamsInRange t ∧ AirtimeHolds t

/-- Every step keeps the handoff table at 16 entries at most with distinct numbers, and every key wait queue at four
headsets at most (R70, R106). -/
def Obligations.TableAndQueuesStayInOrder : Prop :=
  ∀ s t : State, TableInOrder s → QueuesInOrder s → step s = .next t → TableInOrder t ∧ QueuesInOrder t

/-- Every step keeps every filtered level within 0 to 4080 and every dwell within 0 to 255 (R81, R87, R101), and every
running timer's count below the highest value of its parameter: a serve-lost count within 0 to 254 and a retain count within
0 to 65534, so that whatever waits in the queue no running timer's count reads as absent (R140, R167, R173). The table's
entries have distinct numbers, as TableAndQueuesStayInOrder says of every step (R106). -/
def Obligations.LevelsAndCountsStayInRange : Prop :=
  ∀ s t : State, ParamsInRange s → TableInOrder s → step s = .next t →
    (LevelsInRange s → LevelsInRange t) ∧ (CountsInRange s → CountsInRange t)

/-- Right after reset every invariant holds (R21, R40, R114, R143, R158, R167, R173). -/
def Obligations.ResetMeetsTheInvariants : Prop :=
  ClockInRange State.reset ∧ LinksInOrder State.reset ∧ ParamsInRange State.reset ∧ AirtimeHolds State.reset ∧
    TableInOrder State.reset ∧ QueuesInOrder State.reset ∧ LevelsInRange State.reset ∧ CountsInRange State.reset
end

