-- ==== Sys2Proof/Laws/State.lean ====
section
/-! SUPPORT. One lemma per field for each update of the state, each true by unfolding and tagged for simp, and the
read-after-write lemmas of the roster, the antennas, the links and the handoff table. No later proof unfolds a record
update. -/

namespace Sys2Proof.Machine

/-! ### State.setRec -/

@[simp] theorem State.setRec_pending (s : State) (i : RosterIx) (r : Option Record) : (s.setRec i r).pending = s.pending := rfl
@[simp] theorem State.setRec_resetHeld (s : State) (i : RosterIx) (r : Option Record) : (s.setRec i r).resetHeld = s.resetHeld := rfl
@[simp] theorem State.setRec_settingsLink (s : State) (i : RosterIx) (r : Option Record) : (s.setRec i r).settingsLink = s.settingsLink := rfl
@[simp] theorem State.setRec_rateCode (s : State) (i : RosterIx) (r : Option Record) : (s.setRec i r).rateCode = s.rateCode := rfl
@[simp] theorem State.setRec_params (s : State) (i : RosterIx) (r : Option Record) : (s.setRec i r).params = s.params := rfl
@[simp] theorem State.setRec_antennas (s : State) (i : RosterIx) (r : Option Record) : (s.setRec i r).antennas = s.antennas := rfl
@[simp] theorem State.setRec_handoffs (s : State) (i : RosterIx) (r : Option Record) : (s.setRec i r).handoffs = s.handoffs := rfl
@[simp] theorem State.setRec_seqCounter (s : State) (i : RosterIx) (r : Option Record) : (s.setRec i r).seqCounter = s.seqCounter := rfl
@[simp] theorem State.setRec_trim (s : State) (i : RosterIx) (r : Option Record) : (s.setRec i r).trim = s.trim := rfl
@[simp] theorem State.setRec_acc (s : State) (i : RosterIx) (r : Option Record) : (s.setRec i r).acc = s.acc := rfl
@[simp] theorem State.setRec_frameNumber (s : State) (i : RosterIx) (r : Option Record) : (s.setRec i r).frameNumber = s.frameNumber := rfl
@[simp] theorem State.setRec_frameLength (s : State) (i : RosterIx) (r : Option Record) : (s.setRec i r).frameLength = s.frameLength := rfl
@[simp] theorem State.setRec_fsync (s : State) (i : RosterIx) (r : Option Record) : (s.setRec i r).fsync = s.fsync := rfl
@[simp] theorem State.setRec_links (s : State) (i : RosterIx) (r : Option Record) : (s.setRec i r).links = s.links := rfl
@[simp] theorem State.setRec_choices (s : State) (i : RosterIx) (r : Option Record) : (s.setRec i r).choices = s.choices := rfl
@[simp] theorem State.setRec_ant (s : State) (i : RosterIx) (r : Option Record) (b : AntennaId) : (s.setRec i r).ant b = s.ant b := rfl
@[simp] theorem State.setRec_owner (s : State) (i : RosterIx) (r : Option Record) (b : AntennaId) : (s.setRec i r).owner b = s.owner b := rfl
@[simp] theorem State.setRec_link (s : State) (i : RosterIx) (r : Option Record) (m : LinkId) : (s.setRec i r).link m = s.link m := rfl
@[simp] theorem State.setRec_entry? (s : State) (i : RosterIx) (r : Option Record) (n : EntryNo) : (s.setRec i r).entry? n = s.entry? n := rfl

/-! ### State.setAnt -/

@[simp] theorem State.setAnt_pending (s : State) (a : AntennaId) (x : Antenna) : (s.setAnt a x).pending = s.pending := rfl
@[simp] theorem State.setAnt_resetHeld (s : State) (a : AntennaId) (x : Antenna) : (s.setAnt a x).resetHeld = s.resetHeld := rfl
@[simp] theorem State.setAnt_settingsLink (s : State) (a : AntennaId) (x : Antenna) : (s.setAnt a x).settingsLink = s.settingsLink := rfl
@[simp] theorem State.setAnt_rateCode (s : State) (a : AntennaId) (x : Antenna) : (s.setAnt a x).rateCode = s.rateCode := rfl
@[simp] theorem State.setAnt_params (s : State) (a : AntennaId) (x : Antenna) : (s.setAnt a x).params = s.params := rfl
@[simp] theorem State.setAnt_roster (s : State) (a : AntennaId) (x : Antenna) : (s.setAnt a x).roster = s.roster := rfl
@[simp] theorem State.setAnt_handoffs (s : State) (a : AntennaId) (x : Antenna) : (s.setAnt a x).handoffs = s.handoffs := rfl
@[simp] theorem State.setAnt_seqCounter (s : State) (a : AntennaId) (x : Antenna) : (s.setAnt a x).seqCounter = s.seqCounter := rfl
@[simp] theorem State.setAnt_trim (s : State) (a : AntennaId) (x : Antenna) : (s.setAnt a x).trim = s.trim := rfl
@[simp] theorem State.setAnt_acc (s : State) (a : AntennaId) (x : Antenna) : (s.setAnt a x).acc = s.acc := rfl
@[simp] theorem State.setAnt_frameNumber (s : State) (a : AntennaId) (x : Antenna) : (s.setAnt a x).frameNumber = s.frameNumber := rfl
@[simp] theorem State.setAnt_frameLength (s : State) (a : AntennaId) (x : Antenna) : (s.setAnt a x).frameLength = s.frameLength := rfl
@[simp] theorem State.setAnt_fsync (s : State) (a : AntennaId) (x : Antenna) : (s.setAnt a x).fsync = s.fsync := rfl
@[simp] theorem State.setAnt_links (s : State) (a : AntennaId) (x : Antenna) : (s.setAnt a x).links = s.links := rfl
@[simp] theorem State.setAnt_choices (s : State) (a : AntennaId) (x : Antenna) : (s.setAnt a x).choices = s.choices := rfl
@[simp] theorem State.setAnt_rec? (s : State) (a : AntennaId) (x : Antenna) (j : RosterIx) : (s.setAnt a x).rec? j = s.rec? j := rfl
@[simp] theorem State.setAnt_link (s : State) (a : AntennaId) (x : Antenna) (m : LinkId) : (s.setAnt a x).link m = s.link m := rfl
@[simp] theorem State.setAnt_entry? (s : State) (a : AntennaId) (x : Antenna) (n : EntryNo) : (s.setAnt a x).entry? n = s.entry? n := rfl

/-! ### State.setLink -/

@[simp] theorem State.setLink_pending (s : State) (l : LinkId) (x : Link) : (s.setLink l x).pending = s.pending := rfl
@[simp] theorem State.setLink_resetHeld (s : State) (l : LinkId) (x : Link) : (s.setLink l x).resetHeld = s.resetHeld := rfl
@[simp] theorem State.setLink_settingsLink (s : State) (l : LinkId) (x : Link) : (s.setLink l x).settingsLink = s.settingsLink := rfl
@[simp] theorem State.setLink_rateCode (s : State) (l : LinkId) (x : Link) : (s.setLink l x).rateCode = s.rateCode := rfl
@[simp] theorem State.setLink_params (s : State) (l : LinkId) (x : Link) : (s.setLink l x).params = s.params := rfl
@[simp] theorem State.setLink_roster (s : State) (l : LinkId) (x : Link) : (s.setLink l x).roster = s.roster := rfl
@[simp] theorem State.setLink_antennas (s : State) (l : LinkId) (x : Link) : (s.setLink l x).antennas = s.antennas := rfl
@[simp] theorem State.setLink_handoffs (s : State) (l : LinkId) (x : Link) : (s.setLink l x).handoffs = s.handoffs := rfl
@[simp] theorem State.setLink_seqCounter (s : State) (l : LinkId) (x : Link) : (s.setLink l x).seqCounter = s.seqCounter := rfl
@[simp] theorem State.setLink_trim (s : State) (l : LinkId) (x : Link) : (s.setLink l x).trim = s.trim := rfl
@[simp] theorem State.setLink_acc (s : State) (l : LinkId) (x : Link) : (s.setLink l x).acc = s.acc := rfl
@[simp] theorem State.setLink_frameNumber (s : State) (l : LinkId) (x : Link) : (s.setLink l x).frameNumber = s.frameNumber := rfl
@[simp] theorem State.setLink_frameLength (s : State) (l : LinkId) (x : Link) : (s.setLink l x).frameLength = s.frameLength := rfl
@[simp] theorem State.setLink_fsync (s : State) (l : LinkId) (x : Link) : (s.setLink l x).fsync = s.fsync := rfl
@[simp] theorem State.setLink_choices (s : State) (l : LinkId) (x : Link) : (s.setLink l x).choices = s.choices := rfl
@[simp] theorem State.setLink_rec? (s : State) (l : LinkId) (x : Link) (j : RosterIx) : (s.setLink l x).rec? j = s.rec? j := rfl
@[simp] theorem State.setLink_ant (s : State) (l : LinkId) (x : Link) (b : AntennaId) : (s.setLink l x).ant b = s.ant b := rfl
@[simp] theorem State.setLink_owner (s : State) (l : LinkId) (x : Link) (b : AntennaId) : (s.setLink l x).owner b = s.owner b := rfl
@[simp] theorem State.setLink_entry? (s : State) (l : LinkId) (x : Link) (n : EntryNo) : (s.setLink l x).entry? n = s.entry? n := rfl

/-! ### State.modEntry -/

@[simp] theorem State.modEntry_pending (s : State) (e : EntryNo) (f : Entry → Entry) : (s.modEntry e f).pending = s.pending := rfl
@[simp] theorem State.modEntry_resetHeld (s : State) (e : EntryNo) (f : Entry → Entry) : (s.modEntry e f).resetHeld = s.resetHeld := rfl
@[simp] theorem State.modEntry_settingsLink (s : State) (e : EntryNo) (f : Entry → Entry) : (s.modEntry e f).settingsLink = s.settingsLink := rfl
@[simp] theorem State.modEntry_rateCode (s : State) (e : EntryNo) (f : Entry → Entry) : (s.modEntry e f).rateCode = s.rateCode := rfl
@[simp] theorem State.modEntry_params (s : State) (e : EntryNo) (f : Entry → Entry) : (s.modEntry e f).params = s.params := rfl
@[simp] theorem State.modEntry_roster (s : State) (e : EntryNo) (f : Entry → Entry) : (s.modEntry e f).roster = s.roster := rfl
@[simp] theorem State.modEntry_antennas (s : State) (e : EntryNo) (f : Entry → Entry) : (s.modEntry e f).antennas = s.antennas := rfl
@[simp] theorem State.modEntry_seqCounter (s : State) (e : EntryNo) (f : Entry → Entry) : (s.modEntry e f).seqCounter = s.seqCounter := rfl
@[simp] theorem State.modEntry_trim (s : State) (e : EntryNo) (f : Entry → Entry) : (s.modEntry e f).trim = s.trim := rfl
@[simp] theorem State.modEntry_acc (s : State) (e : EntryNo) (f : Entry → Entry) : (s.modEntry e f).acc = s.acc := rfl
@[simp] theorem State.modEntry_frameNumber (s : State) (e : EntryNo) (f : Entry → Entry) : (s.modEntry e f).frameNumber = s.frameNumber := rfl
@[simp] theorem State.modEntry_frameLength (s : State) (e : EntryNo) (f : Entry → Entry) : (s.modEntry e f).frameLength = s.frameLength := rfl
@[simp] theorem State.modEntry_fsync (s : State) (e : EntryNo) (f : Entry → Entry) : (s.modEntry e f).fsync = s.fsync := rfl
@[simp] theorem State.modEntry_links (s : State) (e : EntryNo) (f : Entry → Entry) : (s.modEntry e f).links = s.links := rfl
@[simp] theorem State.modEntry_choices (s : State) (e : EntryNo) (f : Entry → Entry) : (s.modEntry e f).choices = s.choices := rfl
@[simp] theorem State.modEntry_rec? (s : State) (e : EntryNo) (f : Entry → Entry) (j : RosterIx) : (s.modEntry e f).rec? j = s.rec? j := rfl
@[simp] theorem State.modEntry_ant (s : State) (e : EntryNo) (f : Entry → Entry) (b : AntennaId) : (s.modEntry e f).ant b = s.ant b := rfl
@[simp] theorem State.modEntry_owner (s : State) (e : EntryNo) (f : Entry → Entry) (b : AntennaId) : (s.modEntry e f).owner b = s.owner b := rfl
@[simp] theorem State.modEntry_link (s : State) (e : EntryNo) (f : Entry → Entry) (m : LinkId) : (s.modEntry e f).link m = s.link m := rfl

/-! ### State.modAnt -/

@[simp] theorem State.modAnt_pending (s : State) (a : AntennaId) (f : Antenna → Antenna) : (s.modAnt a f).pending = s.pending := rfl
@[simp] theorem State.modAnt_resetHeld (s : State) (a : AntennaId) (f : Antenna → Antenna) : (s.modAnt a f).resetHeld = s.resetHeld := rfl
@[simp] theorem State.modAnt_settingsLink (s : State) (a : AntennaId) (f : Antenna → Antenna) : (s.modAnt a f).settingsLink = s.settingsLink := rfl
@[simp] theorem State.modAnt_rateCode (s : State) (a : AntennaId) (f : Antenna → Antenna) : (s.modAnt a f).rateCode = s.rateCode := rfl
@[simp] theorem State.modAnt_params (s : State) (a : AntennaId) (f : Antenna → Antenna) : (s.modAnt a f).params = s.params := rfl
@[simp] theorem State.modAnt_roster (s : State) (a : AntennaId) (f : Antenna → Antenna) : (s.modAnt a f).roster = s.roster := rfl
@[simp] theorem State.modAnt_handoffs (s : State) (a : AntennaId) (f : Antenna → Antenna) : (s.modAnt a f).handoffs = s.handoffs := rfl
@[simp] theorem State.modAnt_seqCounter (s : State) (a : AntennaId) (f : Antenna → Antenna) : (s.modAnt a f).seqCounter = s.seqCounter := rfl
@[simp] theorem State.modAnt_trim (s : State) (a : AntennaId) (f : Antenna → Antenna) : (s.modAnt a f).trim = s.trim := rfl
@[simp] theorem State.modAnt_acc (s : State) (a : AntennaId) (f : Antenna → Antenna) : (s.modAnt a f).acc = s.acc := rfl
@[simp] theorem State.modAnt_frameNumber (s : State) (a : AntennaId) (f : Antenna → Antenna) : (s.modAnt a f).frameNumber = s.frameNumber := rfl
@[simp] theorem State.modAnt_frameLength (s : State) (a : AntennaId) (f : Antenna → Antenna) : (s.modAnt a f).frameLength = s.frameLength := rfl
@[simp] theorem State.modAnt_fsync (s : State) (a : AntennaId) (f : Antenna → Antenna) : (s.modAnt a f).fsync = s.fsync := rfl
@[simp] theorem State.modAnt_links (s : State) (a : AntennaId) (f : Antenna → Antenna) : (s.modAnt a f).links = s.links := rfl
@[simp] theorem State.modAnt_choices (s : State) (a : AntennaId) (f : Antenna → Antenna) : (s.modAnt a f).choices = s.choices := rfl
@[simp] theorem State.modAnt_rec? (s : State) (a : AntennaId) (f : Antenna → Antenna) (j : RosterIx) : (s.modAnt a f).rec? j = s.rec? j := rfl
@[simp] theorem State.modAnt_link (s : State) (a : AntennaId) (f : Antenna → Antenna) (m : LinkId) : (s.modAnt a f).link m = s.link m := rfl
@[simp] theorem State.modAnt_entry? (s : State) (a : AntennaId) (f : Antenna → Antenna) (n : EntryNo) : (s.modAnt a f).entry? n = s.entry? n := rfl

/-! ### State.modLink -/

@[simp] theorem State.modLink_pending (s : State) (l : LinkId) (f : Link → Link) : (s.modLink l f).pending = s.pending := rfl
@[simp] theorem State.modLink_resetHeld (s : State) (l : LinkId) (f : Link → Link) : (s.modLink l f).resetHeld = s.resetHeld := rfl
@[simp] theorem State.modLink_settingsLink (s : State) (l : LinkId) (f : Link → Link) : (s.modLink l f).settingsLink = s.settingsLink := rfl
@[simp] theorem State.modLink_rateCode (s : State) (l : LinkId) (f : Link → Link) : (s.modLink l f).rateCode = s.rateCode := rfl
@[simp] theorem State.modLink_params (s : State) (l : LinkId) (f : Link → Link) : (s.modLink l f).params = s.params := rfl
@[simp] theorem State.modLink_roster (s : State) (l : LinkId) (f : Link → Link) : (s.modLink l f).roster = s.roster := rfl
@[simp] theorem State.modLink_antennas (s : State) (l : LinkId) (f : Link → Link) : (s.modLink l f).antennas = s.antennas := rfl
@[simp] theorem State.modLink_handoffs (s : State) (l : LinkId) (f : Link → Link) : (s.modLink l f).handoffs = s.handoffs := rfl
@[simp] theorem State.modLink_seqCounter (s : State) (l : LinkId) (f : Link → Link) : (s.modLink l f).seqCounter = s.seqCounter := rfl
@[simp] theorem State.modLink_trim (s : State) (l : LinkId) (f : Link → Link) : (s.modLink l f).trim = s.trim := rfl
@[simp] theorem State.modLink_acc (s : State) (l : LinkId) (f : Link → Link) : (s.modLink l f).acc = s.acc := rfl
@[simp] theorem State.modLink_frameNumber (s : State) (l : LinkId) (f : Link → Link) : (s.modLink l f).frameNumber = s.frameNumber := rfl
@[simp] theorem State.modLink_frameLength (s : State) (l : LinkId) (f : Link → Link) : (s.modLink l f).frameLength = s.frameLength := rfl
@[simp] theorem State.modLink_fsync (s : State) (l : LinkId) (f : Link → Link) : (s.modLink l f).fsync = s.fsync := rfl
@[simp] theorem State.modLink_choices (s : State) (l : LinkId) (f : Link → Link) : (s.modLink l f).choices = s.choices := rfl
@[simp] theorem State.modLink_rec? (s : State) (l : LinkId) (f : Link → Link) (j : RosterIx) : (s.modLink l f).rec? j = s.rec? j := rfl
@[simp] theorem State.modLink_ant (s : State) (l : LinkId) (f : Link → Link) (b : AntennaId) : (s.modLink l f).ant b = s.ant b := rfl
@[simp] theorem State.modLink_owner (s : State) (l : LinkId) (f : Link → Link) (b : AntennaId) : (s.modLink l f).owner b = s.owner b := rfl
@[simp] theorem State.modLink_entry? (s : State) (l : LinkId) (f : Link → Link) (n : EntryNo) : (s.modLink l f).entry? n = s.entry? n := rfl

/-! ### State.markDue -/

@[simp] theorem State.markDue_pending (s : State) (a : AntennaId) : (s.markDue a).pending = s.pending := rfl
@[simp] theorem State.markDue_resetHeld (s : State) (a : AntennaId) : (s.markDue a).resetHeld = s.resetHeld := rfl
@[simp] theorem State.markDue_settingsLink (s : State) (a : AntennaId) : (s.markDue a).settingsLink = s.settingsLink := rfl
@[simp] theorem State.markDue_rateCode (s : State) (a : AntennaId) : (s.markDue a).rateCode = s.rateCode := rfl
@[simp] theorem State.markDue_params (s : State) (a : AntennaId) : (s.markDue a).params = s.params := rfl
@[simp] theorem State.markDue_roster (s : State) (a : AntennaId) : (s.markDue a).roster = s.roster := rfl
@[simp] theorem State.markDue_handoffs (s : State) (a : AntennaId) : (s.markDue a).handoffs = s.handoffs := rfl
@[simp] theorem State.markDue_seqCounter (s : State) (a : AntennaId) : (s.markDue a).seqCounter = s.seqCounter := rfl
@[simp] theorem State.markDue_trim (s : State) (a : AntennaId) : (s.markDue a).trim = s.trim := rfl
@[simp] theorem State.markDue_acc (s : State) (a : AntennaId) : (s.markDue a).acc = s.acc := rfl
@[simp] theorem State.markDue_frameNumber (s : State) (a : AntennaId) : (s.markDue a).frameNumber = s.frameNumber := rfl
@[simp] theorem State.markDue_frameLength (s : State) (a : AntennaId) : (s.markDue a).frameLength = s.frameLength := rfl
@[simp] theorem State.markDue_fsync (s : State) (a : AntennaId) : (s.markDue a).fsync = s.fsync := rfl
@[simp] theorem State.markDue_links (s : State) (a : AntennaId) : (s.markDue a).links = s.links := rfl
@[simp] theorem State.markDue_choices (s : State) (a : AntennaId) : (s.markDue a).choices = s.choices := rfl
@[simp] theorem State.markDue_rec? (s : State) (a : AntennaId) (j : RosterIx) : (s.markDue a).rec? j = s.rec? j := rfl
@[simp] theorem State.markDue_link (s : State) (a : AntennaId) (m : LinkId) : (s.markDue a).link m = s.link m := rfl
@[simp] theorem State.markDue_entry? (s : State) (a : AntennaId) (n : EntryNo) : (s.markDue a).entry? n = s.entry? n := rfl

/-! ### State.setPlan -/

@[simp] theorem State.setPlan_pending (s : State) (a : AntennaId) (p : Vector Group 16) : (s.setPlan a p).pending = s.pending := rfl
@[simp] theorem State.setPlan_resetHeld (s : State) (a : AntennaId) (p : Vector Group 16) : (s.setPlan a p).resetHeld = s.resetHeld := rfl
@[simp] theorem State.setPlan_settingsLink (s : State) (a : AntennaId) (p : Vector Group 16) : (s.setPlan a p).settingsLink = s.settingsLink := rfl
@[simp] theorem State.setPlan_rateCode (s : State) (a : AntennaId) (p : Vector Group 16) : (s.setPlan a p).rateCode = s.rateCode := rfl
@[simp] theorem State.setPlan_params (s : State) (a : AntennaId) (p : Vector Group 16) : (s.setPlan a p).params = s.params := rfl
@[simp] theorem State.setPlan_roster (s : State) (a : AntennaId) (p : Vector Group 16) : (s.setPlan a p).roster = s.roster := rfl
@[simp] theorem State.setPlan_handoffs (s : State) (a : AntennaId) (p : Vector Group 16) : (s.setPlan a p).handoffs = s.handoffs := rfl
@[simp] theorem State.setPlan_seqCounter (s : State) (a : AntennaId) (p : Vector Group 16) : (s.setPlan a p).seqCounter = s.seqCounter := rfl
@[simp] theorem State.setPlan_trim (s : State) (a : AntennaId) (p : Vector Group 16) : (s.setPlan a p).trim = s.trim := rfl
@[simp] theorem State.setPlan_acc (s : State) (a : AntennaId) (p : Vector Group 16) : (s.setPlan a p).acc = s.acc := rfl
@[simp] theorem State.setPlan_frameNumber (s : State) (a : AntennaId) (p : Vector Group 16) : (s.setPlan a p).frameNumber = s.frameNumber := rfl
@[simp] theorem State.setPlan_frameLength (s : State) (a : AntennaId) (p : Vector Group 16) : (s.setPlan a p).frameLength = s.frameLength := rfl
@[simp] theorem State.setPlan_fsync (s : State) (a : AntennaId) (p : Vector Group 16) : (s.setPlan a p).fsync = s.fsync := rfl
@[simp] theorem State.setPlan_links (s : State) (a : AntennaId) (p : Vector Group 16) : (s.setPlan a p).links = s.links := rfl
@[simp] theorem State.setPlan_choices (s : State) (a : AntennaId) (p : Vector Group 16) : (s.setPlan a p).choices = s.choices := rfl
@[simp] theorem State.setPlan_rec? (s : State) (a : AntennaId) (p : Vector Group 16) (j : RosterIx) : (s.setPlan a p).rec? j = s.rec? j := rfl
@[simp] theorem State.setPlan_link (s : State) (a : AntennaId) (p : Vector Group 16) (m : LinkId) : (s.setPlan a p).link m = s.link m := rfl
@[simp] theorem State.setPlan_entry? (s : State) (a : AntennaId) (p : Vector Group 16) (n : EntryNo) : (s.setPlan a p).entry? n = s.entry? n := rfl

/-! ### State.setCarriage -/

@[simp] theorem State.setCarriage_pending (s : State) (a : AntennaId) (c : Vector Nat 16) : (s.setCarriage a c).pending = s.pending := rfl
@[simp] theorem State.setCarriage_resetHeld (s : State) (a : AntennaId) (c : Vector Nat 16) : (s.setCarriage a c).resetHeld = s.resetHeld := rfl
@[simp] theorem State.setCarriage_settingsLink (s : State) (a : AntennaId) (c : Vector Nat 16) : (s.setCarriage a c).settingsLink = s.settingsLink := rfl
@[simp] theorem State.setCarriage_rateCode (s : State) (a : AntennaId) (c : Vector Nat 16) : (s.setCarriage a c).rateCode = s.rateCode := rfl
@[simp] theorem State.setCarriage_params (s : State) (a : AntennaId) (c : Vector Nat 16) : (s.setCarriage a c).params = s.params := rfl
@[simp] theorem State.setCarriage_roster (s : State) (a : AntennaId) (c : Vector Nat 16) : (s.setCarriage a c).roster = s.roster := rfl
@[simp] theorem State.setCarriage_handoffs (s : State) (a : AntennaId) (c : Vector Nat 16) : (s.setCarriage a c).handoffs = s.handoffs := rfl
@[simp] theorem State.setCarriage_seqCounter (s : State) (a : AntennaId) (c : Vector Nat 16) : (s.setCarriage a c).seqCounter = s.seqCounter := rfl
@[simp] theorem State.setCarriage_trim (s : State) (a : AntennaId) (c : Vector Nat 16) : (s.setCarriage a c).trim = s.trim := rfl
@[simp] theorem State.setCarriage_acc (s : State) (a : AntennaId) (c : Vector Nat 16) : (s.setCarriage a c).acc = s.acc := rfl
@[simp] theorem State.setCarriage_frameNumber (s : State) (a : AntennaId) (c : Vector Nat 16) : (s.setCarriage a c).frameNumber = s.frameNumber := rfl
@[simp] theorem State.setCarriage_frameLength (s : State) (a : AntennaId) (c : Vector Nat 16) : (s.setCarriage a c).frameLength = s.frameLength := rfl
@[simp] theorem State.setCarriage_fsync (s : State) (a : AntennaId) (c : Vector Nat 16) : (s.setCarriage a c).fsync = s.fsync := rfl
@[simp] theorem State.setCarriage_links (s : State) (a : AntennaId) (c : Vector Nat 16) : (s.setCarriage a c).links = s.links := rfl
@[simp] theorem State.setCarriage_choices (s : State) (a : AntennaId) (c : Vector Nat 16) : (s.setCarriage a c).choices = s.choices := rfl
@[simp] theorem State.setCarriage_rec? (s : State) (a : AntennaId) (c : Vector Nat 16) (j : RosterIx) : (s.setCarriage a c).rec? j = s.rec? j := rfl
@[simp] theorem State.setCarriage_link (s : State) (a : AntennaId) (c : Vector Nat 16) (m : LinkId) : (s.setCarriage a c).link m = s.link m := rfl
@[simp] theorem State.setCarriage_entry? (s : State) (a : AntennaId) (c : Vector Nat 16) (n : EntryNo) : (s.setCarriage a c).entry? n = s.entry? n := rfl

/-! ### State.modRec -/

@[simp] theorem State.modRec_pending (s : State) (i : RosterIx) (f : Record → Record) : (s.modRec i f).pending = s.pending := by
  unfold State.modRec; split <;> rfl
@[simp] theorem State.modRec_resetHeld (s : State) (i : RosterIx) (f : Record → Record) : (s.modRec i f).resetHeld = s.resetHeld := by
  unfold State.modRec; split <;> rfl
@[simp] theorem State.modRec_settingsLink (s : State) (i : RosterIx) (f : Record → Record) : (s.modRec i f).settingsLink = s.settingsLink := by
  unfold State.modRec; split <;> rfl
@[simp] theorem State.modRec_rateCode (s : State) (i : RosterIx) (f : Record → Record) : (s.modRec i f).rateCode = s.rateCode := by
  unfold State.modRec; split <;> rfl
@[simp] theorem State.modRec_params (s : State) (i : RosterIx) (f : Record → Record) : (s.modRec i f).params = s.params := by
  unfold State.modRec; split <;> rfl
@[simp] theorem State.modRec_antennas (s : State) (i : RosterIx) (f : Record → Record) : (s.modRec i f).antennas = s.antennas := by
  unfold State.modRec; split <;> rfl
@[simp] theorem State.modRec_handoffs (s : State) (i : RosterIx) (f : Record → Record) : (s.modRec i f).handoffs = s.handoffs := by
  unfold State.modRec; split <;> rfl
@[simp] theorem State.modRec_seqCounter (s : State) (i : RosterIx) (f : Record → Record) : (s.modRec i f).seqCounter = s.seqCounter := by
  unfold State.modRec; split <;> rfl
@[simp] theorem State.modRec_trim (s : State) (i : RosterIx) (f : Record → Record) : (s.modRec i f).trim = s.trim := by
  unfold State.modRec; split <;> rfl
@[simp] theorem State.modRec_acc (s : State) (i : RosterIx) (f : Record → Record) : (s.modRec i f).acc = s.acc := by
  unfold State.modRec; split <;> rfl
@[simp] theorem State.modRec_frameNumber (s : State) (i : RosterIx) (f : Record → Record) : (s.modRec i f).frameNumber = s.frameNumber := by
  unfold State.modRec; split <;> rfl
@[simp] theorem State.modRec_frameLength (s : State) (i : RosterIx) (f : Record → Record) : (s.modRec i f).frameLength = s.frameLength := by
  unfold State.modRec; split <;> rfl
@[simp] theorem State.modRec_fsync (s : State) (i : RosterIx) (f : Record → Record) : (s.modRec i f).fsync = s.fsync := by
  unfold State.modRec; split <;> rfl
@[simp] theorem State.modRec_links (s : State) (i : RosterIx) (f : Record → Record) : (s.modRec i f).links = s.links := by
  unfold State.modRec; split <;> rfl
@[simp] theorem State.modRec_choices (s : State) (i : RosterIx) (f : Record → Record) : (s.modRec i f).choices = s.choices := by
  unfold State.modRec; split <;> rfl
@[simp] theorem State.modRec_ant (s : State) (i : RosterIx) (f : Record → Record) (b : AntennaId) :
    (s.modRec i f).ant b = s.ant b := by
  unfold State.modRec; split <;> rfl
@[simp] theorem State.modRec_owner (s : State) (i : RosterIx) (f : Record → Record) (b : AntennaId) :
    (s.modRec i f).owner b = s.owner b := by
  unfold State.modRec; split <;> rfl
@[simp] theorem State.modRec_link (s : State) (i : RosterIx) (f : Record → Record) (m : LinkId) :
    (s.modRec i f).link m = s.link m := by
  unfold State.modRec; split <;> rfl
@[simp] theorem State.modRec_entry? (s : State) (i : RosterIx) (f : Record → Record) (n : EntryNo) :
    (s.modRec i f).entry? n = s.entry? n := by
  unfold State.modRec; split <;> rfl

/-! ### Read after write -/

/-- Writing a record is read back at its own index. -/
@[simp] theorem State.rec?_setRec_self (s : State) (i : RosterIx) (r : Option Record) :
    (s.setRec i r).rec? i = r := by
  simp [State.rec?, State.setRec, Vector.get_eq_getElem]

/-- Writing a record leaves every other index alone. -/
theorem State.rec?_setRec_ne (s : State) {i j : RosterIx} (r : Option Record) (h : i ≠ j) :
    (s.setRec i r).rec? j = s.rec? j := by
  have : i.val ≠ j.val := fun e => h (Fin.ext e)
  simp [State.rec?, State.setRec, Vector.get_eq_getElem, this]

theorem State.rec?_setRec (s : State) (i j : RosterIx) (r : Option Record) :
    (s.setRec i r).rec? j = if i = j then r else s.rec? j := by
  by_cases h : i = j
  · subst h; simp
  · simp [h, State.rec?_setRec_ne]

/-- Changing a record is read back at its own index. -/
@[simp] theorem State.rec?_modRec_self (s : State) (i : RosterIx) (f : Record → Record) :
    (s.modRec i f).rec? i = (s.rec? i).map f := by
  unfold State.modRec
  split
  · next h => simp [h]
  · next r h => simp [h]

theorem State.rec?_modRec (s : State) (i j : RosterIx) (f : Record → Record) :
    (s.modRec i f).rec? j = if i = j then (s.rec? j).map f else s.rec? j := by
  by_cases h : i = j
  · subst h; simp
  · simp only [h, if_false]
    unfold State.modRec
    split
    · rfl
    · exact State.rec?_setRec_ne s _ h

/-- Changing a record that is there is writing it. -/
theorem State.modRec_of_some {s : State} {i : RosterIx} {r : Record} (h : s.rec? i = some r)
    (f : Record → Record) : s.modRec i f = s.setRec i (some (f r)) := by
  simp [State.modRec, h]

/-- Changing a FREE record is nothing. -/
theorem State.modRec_of_none {s : State} {i : RosterIx} (h : s.rec? i = none) (f : Record → Record) :
    s.modRec i f = s := by
  simp [State.modRec, h]

/-- Writing an antenna is read back at its own ID. -/
@[simp] theorem State.ant_setAnt_self (s : State) (a : AntennaId) (x : Antenna) : (s.setAnt a x).ant a = x := by
  simp [State.ant, State.setAnt, Vector.get_eq_getElem]

/-- Writing an antenna leaves every other one alone. -/
theorem State.ant_setAnt_ne (s : State) {a b : AntennaId} (x : Antenna) (h : a ≠ b) :
    (s.setAnt a x).ant b = s.ant b := by
  have : a.val ≠ b.val := fun e => h (Fin.ext e)
  simp [State.ant, State.setAnt, Vector.get_eq_getElem, this]

theorem State.ant_setAnt (s : State) (a b : AntennaId) (x : Antenna) :
    (s.setAnt a x).ant b = if a = b then x else s.ant b := by
  by_cases h : a = b
  · subst h; simp
  · simp [h, State.ant_setAnt_ne]

@[simp] theorem State.ant_modAnt_self (s : State) (a : AntennaId) (f : Antenna → Antenna) :
    (s.modAnt a f).ant a = f (s.ant a) := by
  simp [State.modAnt]

theorem State.ant_modAnt (s : State) (a b : AntennaId) (f : Antenna → Antenna) :
    (s.modAnt a f).ant b = if a = b then f (s.ant b) else s.ant b := by
  by_cases h : a = b
  · subst h; simp
  · simp [State.modAnt, State.ant_setAnt, h]

/-- Writing a link is read back at its own number. -/
@[simp] theorem State.link_setLink_self (s : State) (l : LinkId) (x : Link) : (s.setLink l x).link l = x := by
  simp [State.link, State.setLink, Vector.get_eq_getElem]

/-- Writing a link leaves every other one alone. -/
theorem State.link_setLink_ne (s : State) {l m : LinkId} (x : Link) (h : l ≠ m) :
    (s.setLink l x).link m = s.link m := by
  have : l.val ≠ m.val := fun e => h (Fin.ext e)
  simp [State.link, State.setLink, Vector.get_eq_getElem, this]

theorem State.link_setLink (s : State) (l m : LinkId) (x : Link) :
    (s.setLink l x).link m = if l = m then x else s.link m := by
  by_cases h : l = m
  · subst h; simp
  · simp [h, State.link_setLink_ne]

@[simp] theorem State.link_modLink_self (s : State) (l : LinkId) (f : Link → Link) :
    (s.modLink l f).link l = f (s.link l) := by
  simp [State.modLink]

theorem State.link_modLink (s : State) (l m : LinkId) (f : Link → Link) :
    (s.modLink l f).link m = if l = m then f (s.link m) else s.link m := by
  by_cases h : l = m
  · subst h; simp
  · simp [State.modLink, State.link_setLink, h]

/-! ### Repeated writes -/

@[simp] theorem State.setRec_setRec (s : State) (i : RosterIx) (q r : Option Record) :
    (s.setRec i q).setRec i r = s.setRec i r := by
  simp [State.setRec]

@[simp] theorem State.setAnt_setAnt (s : State) (a : AntennaId) (x y : Antenna) :
    (s.setAnt a x).setAnt a y = s.setAnt a y := by
  simp [State.setAnt]

@[simp] theorem State.setLink_setLink (s : State) (l : LinkId) (x y : Link) :
    (s.setLink l x).setLink l y = s.setLink l y := by
  simp [State.setLink]

@[simp] theorem State.modAnt_modAnt (s : State) (a : AntennaId) (f g : Antenna → Antenna) :
    (s.modAnt a f).modAnt a g = s.modAnt a (g ∘ f) := by
  simp [State.modAnt]

@[simp] theorem State.modLink_modLink (s : State) (l : LinkId) (f g : Link → Link) :
    (s.modLink l f).modLink l g = s.modLink l (g ∘ f) := by
  simp [State.modLink]

/-- Writing what is there is nothing. -/
theorem State.setRec_rec? (s : State) (i : RosterIx) : s.setRec i (s.rec? i) = s := by
  simp [State.setRec, State.rec?, Vector.get_eq_getElem]

theorem State.setAnt_ant (s : State) (a : AntennaId) : s.setAnt a (s.ant a) = s := by
  simp [State.setAnt, State.ant, Vector.get_eq_getElem]

theorem State.setLink_link (s : State) (l : LinkId) : s.setLink l (s.link l) = s := by
  simp [State.setLink, State.link, Vector.get_eq_getElem]

/-! ### Writes to different parts commute -/

theorem State.setRec_setAnt (s : State) (i : RosterIx) (r : Option Record) (a : AntennaId) (x : Antenna) :
    (s.setRec i r).setAnt a x = (s.setAnt a x).setRec i r := rfl

theorem State.setRec_setLink (s : State) (i : RosterIx) (r : Option Record) (l : LinkId) (x : Link) :
    (s.setRec i r).setLink l x = (s.setLink l x).setRec i r := rfl

theorem State.setAnt_setLink (s : State) (a : AntennaId) (x : Antenna) (l : LinkId) (y : Link) :
    (s.setAnt a x).setLink l y = (s.setLink l y).setAnt a x := rfl

/-! ### The handoff table -/

/-- Freeing an entry that is not in use is nothing. -/
theorem State.freeEntry_of_none {s : State} {e : EntryNo} (h : s.entry? e = none) : s.freeEntry e = s := by
  simp [State.freeEntry, h]

/-- What freeing an entry in use leaves. -/
theorem State.freeEntry_of_some {s : State} {e : EntryNo} {x : Entry} (h : s.entry? e = some x) :
    s.freeEntry e = { s with handoffs := s.handoffs.filter fun y => y.num != e }.modRec x.headset
      fun r => { r with handoff := none } := by
  simp [State.freeEntry, h]

/-- An entry found by its number carries that number. -/
theorem State.entry?_num {s : State} {e : EntryNo} {x : Entry} (h : s.entry? e = some x) : x.num = e := by
  have := List.find?_some h
  simpa using this

/-- An entry found by its number is in the table. -/
theorem State.entry?_mem {s : State} {e : EntryNo} {x : Entry} (h : s.entry? e = some x) : x ∈ s.handoffs :=
  List.mem_of_find?_eq_some h

/-! ## Timers (R140) -/

@[simp] theorem timerExpires_none (limit : Nat) : timerExpires limit none = false := rfl

@[simp] theorem timerExpires_some (limit : Nat) (t : Timer) :
    timerExpires limit (some t) = (t.due && decide (limit ≤ t.count + 1)) := rfl

/-- A due timer that takes its boundary without expiring counts it. -/
theorem Timer.pass_of_due {t : Timer} (h : t.due = true) : t.pass = { count := t.count + 1, due := false } := by
  simp [Timer.pass, h]

/-- A timer that is not due has no boundary to take. -/
theorem Timer.pass_of_not_due {t : Timer} (h : t.due = false) : t.pass = t := by simp [Timer.pass, h]

/-- A boundary brings no count to a bound that the parameter does not exceed. -/
theorem Timer.boundary_count_lt {limit bound : Nat} {t : Timer} (h : t.count < bound) (hl : limit ≤ bound) :
    (t.boundary limit).count < bound := by
  unfold Timer.boundary
  split
  · exact h
  · show t.count + 1 < bound
    omega

/-- A timer that does not expire as it takes its boundary stays below a bound that the parameter does not exceed. -/
theorem Timer.pass_count_lt {limit bound : Nat} {t : Timer} (h : t.count < bound) (hl : limit ≤ bound)
    (hx : timerExpires limit (some t) = false) : t.pass.count < bound := by
  cases hd : t.due
  · rw [Timer.pass_of_not_due hd]; exact h
  · simp [hd] at hx
    rw [Timer.pass_of_due hd]
    show t.count + 1 < bound
    omega

end Sys2Proof.Machine
end

