-- ==== Sys2Proof/Laws/Frame.lean ====
section
/-! SUPPORT. What the shared operations never touch. Every operation of the roster, the antennas, the planner, the
filter and the handoff engine changes at most the roster, the antennas, the handoff table and the sequence counter: one
lemma for each, which says so. -/

namespace Sys2Proof.Machine

/-- From s to t at most the roster, the antennas, the handoff table and the sequence counter have changed. -/
def SameRest (s t : State) : Prop :=
  t = { s with roster := t.roster, antennas := t.antennas, handoffs := t.handoffs, seqCounter := t.seqCounter }

namespace SameRest

theorem refl (s : State) : SameRest s s := rfl

theorem trans {s t u : State} (h : SameRest s t) (k : SameRest t u) : SameRest s u := by
  unfold SameRest at *
  rw [h] at k
  simpa using k

variable {s t : State} (h : SameRest s t)
include h

theorem pending : t.pending = s.pending := by rw [h]
theorem resetHeld : t.resetHeld = s.resetHeld := by rw [h]
theorem settingsLink : t.settingsLink = s.settingsLink := by rw [h]
theorem rateCode : t.rateCode = s.rateCode := by rw [h]
theorem params : t.params = s.params := by rw [h]
theorem trim : t.trim = s.trim := by rw [h]
theorem acc : t.acc = s.acc := by rw [h]
theorem frameNumber : t.frameNumber = s.frameNumber := by rw [h]
theorem frameLength : t.frameLength = s.frameLength := by rw [h]
theorem fsync : t.fsync = s.fsync := by rw [h]
theorem links : t.links = s.links := by rw [h]
theorem link (l : LinkId) : t.link l = s.link l := by unfold State.link; rw [h.links]
theorem choices : t.choices = s.choices := by rw [h]

end SameRest

/-- A fold of operations that each keep the rest keeps it. -/
theorem SameRest.foldl {α : Type} (f : State → α → State) (hf : ∀ s a, SameRest s (f s a)) :
    ∀ (l : List α) (s : State), SameRest s (l.foldl f s)
  | [], s => .refl s
  | a :: rest, s => (hf s a).trans (SameRest.foldl f hf rest (f s a))

/-! ## The state's own writes -/

theorem setRec_rest (s : State) (i : RosterIx) (r : Option Record) : SameRest s (s.setRec i r) := rfl
theorem setAnt_rest (s : State) (a : AntennaId) (x : Antenna) : SameRest s (s.setAnt a x) := rfl
theorem modAnt_rest (s : State) (a : AntennaId) (f : Antenna → Antenna) : SameRest s (s.modAnt a f) := rfl
theorem markDue_rest (s : State) (a : AntennaId) : SameRest s (s.markDue a) := rfl
theorem setPlan_rest (s : State) (a : AntennaId) (p : Vector Group 16) : SameRest s (s.setPlan a p) := rfl
theorem setCarriage_rest (s : State) (a : AntennaId) (c : Vector Nat 16) : SameRest s (s.setCarriage a c) := rfl
theorem modEntry_rest (s : State) (e : EntryNo) (f : Entry → Entry) : SameRest s (s.modEntry e f) := rfl

theorem modRec_rest (s : State) (i : RosterIx) (f : Record → Record) : SameRest s (s.modRec i f) := by
  unfold State.modRec
  split
  · exact .refl s
  · exact setRec_rest ..

theorem freeEntry_rest (s : State) (e : EntryNo) : SameRest s (s.freeEntry e) := by
  unfold State.freeEntry
  split
  · exact .refl s
  · exact SameRest.trans (t := { s with handoffs := s.handoffs.filter fun y => y.num != e }) rfl (modRec_rest ..)

/-! ## The Frame Planner -/

theorem takeSeat_rest (a : AntennaId) (p : Placement) (x : Seat) (c : ListenSet) (s : State) :
    SameRest s (takeSeat a p x c s) := rfl

theorem unseat_rest (a : AntennaId) (g : GroupIx) (n : SeatNo) (c : ListenSet) (s : State) :
    SameRest s (unseat a g n c s) := rfl

theorem rePlace?_rest {s t : State} {i : RosterIx} {m : Bool} (h : rePlace? s i = some (t, m)) : SameRest s t := by
  unfold rePlace? at h
  split at h
  · cases h
  · split at h
    · cases h
    · simp only at h
      split at h
      · cases h
      · split at h
        · cases h
          exact SameRest.trans (setPlan_rest ..) (modRec_rest ..)
        · cases h

theorem clearBlocked_rest (a : AntennaId) (s : State) : SameRest s (clearBlocked a s) := rfl

theorem queueTrialLoop_rest (a : AntennaId) : ∀ (n : Nat) (s : State), SameRest s (queueTrialLoop a n s)
  | 0, s => .refl s
  | n + 1, s => by
    unfold queueTrialLoop
    split
    · exact .refl s
    · split
      · exact .refl s
      · next h => exact (rePlace?_rest h).trans ((modAnt_rest ..).trans (queueTrialLoop_rest a n _))

theorem queueTrial_rest (a : AntennaId) (s : State) : SameRest s (queueTrial a s) := queueTrialLoop_rest ..

theorem roomMade_rest (a : AntennaId) (s : State) : SameRest s (roomMade a s) :=
  (clearBlocked_rest a s).trans (queueTrial_rest ..)

theorem closureCheck_rest (a : AntennaId) (s : State) : SameRest s (closureCheck a s) := by
  unfold closureCheck
  split
  · exact modAnt_rest ..
  · exact .refl s

theorem releaseSeat_rest (a : AntennaId) (g : GroupIx) (n : SeatNo) (c : ListenSet) (s : State) :
    SameRest s (releaseSeat a g n c s) :=
  (unseat_rest a g n c s).trans ((roomMade_rest ..).trans (closureCheck_rest ..))

theorem lowerSeat_rest (a : AntennaId) (g : GroupIx) (n : SeatNo) (p : Profile) (s : State) :
    SameRest s (lowerSeat a g n p s) :=
  (setPlan_rest ..).trans (roomMade_rest ..)

theorem convertSeat_rest (a : AntennaId) (g : GroupIx) (n : SeatNo) (r : Record) (s : State) :
    SameRest s (convertSeat a g n r s) := by
  unfold convertSeat
  simp only
  split
  · exact (setPlan_rest ..).trans (lowerSeat_rest ..)
  · exact setPlan_rest ..

theorem setKey_rest (i : RosterIx) (k : KeyState) (s : State) : SameRest s (setKey i k s) := modRec_rest ..

theorem leaveQueue_rest (a : AntennaId) (i : RosterIx) (s : State) : SameRest s (leaveQueue a i s) := modAnt_rest ..

theorem joinQueue_rest (a : AntennaId) (i : RosterIx) (s : State) : SameRest s (joinQueue a i s) :=
  (modAnt_rest ..).trans (setKey_rest ..)

theorem keyPress_rest (i : RosterIx) (s : State) : SameRest s (keyPress i s).1 := by
  unfold keyPress
  split
  · exact .refl s
  · split
    · next h =>
      dsimp only
      split
      · exact (rePlace?_rest h).trans (roomMade_rest ..)
      · exact rePlace?_rest h
    · split
      · exact joinQueue_rest ..
      · exact setKey_rest ..

theorem applyPending_rest (i : RosterIx) (s : State) : SameRest s (applyPending i s) := by
  unfold applyPending
  split
  · exact .refl s
  · split
    · exact keyPress_rest ..
    · exact .refl s

/-! ## The Handoff Engine -/

theorem modCandidate_rest (i : RosterIx) (a : AntennaId) (f : Candidate → Candidate) (s : State) :
    SameRest s (modCandidate i a f s) := modRec_rest ..

theorem candidateDwell_rest (i : RosterIx) (a : AntennaId) (s : State) : SameRest s (candidateDwell i a s) := by
  unfold candidateDwell
  split
  · exact .refl s
  · exact modCandidate_rest ..

theorem servingDwell_rest (i : RosterIx) (s : State) : SameRest s (servingDwell i s) := by
  unfold servingDwell
  split
  · exact .refl s
  · exact modRec_rest ..

theorem blockCandidate_rest (i : RosterIx) (a : AntennaId) (s : State) : SameRest s (blockCandidate i a s) :=
  modCandidate_rest ..

theorem removeEntry_rest (e : EntryNo) (i : RosterIx) (s : State) : SameRest s (removeEntry e i s) :=
  (freeEntry_rest ..).trans ((modRec_rest ..).trans (applyPending_rest ..))

theorem markStarted_rest (e : EntryNo) (x : Entry) (p : Placement) (s : State) : SameRest s (markStarted e x p s) :=
  (modEntry_rest ..).trans (modCandidate_rest ..)

theorem startEntry_rest (e : EntryNo) (s : State) : SameRest s (startEntry e s) := by
  unfold startEntry
  split
  · exact .refl s
  · split
    · exact freeEntry_rest ..
    · split
      · exact removeEntry_rest ..
      · split
        · exact (blockCandidate_rest ..).trans (removeEntry_rest ..)
        · exact (takeSeat_rest ..).trans (markStarted_rest ..)

theorem depthReleaseLoop_rest (k : LinkId) : ∀ (n : Nat) (s : State), SameRest s (depthReleaseLoop k n s)
  | 0, s => .refl s
  | n + 1, s => by
    unfold depthReleaseLoop
    split
    · split
      · exact .refl s
      · exact (startEntry_rest ..).trans (depthReleaseLoop_rest k n _)
    · exact .refl s

theorem depthRelease_rest (k : LinkId) (s : State) : SameRest s (depthRelease k s) := depthReleaseLoop_rest ..

theorem depthReleaseFor_rest (k : Option LinkId) (s : State) : SameRest s (depthReleaseFor k s) := by
  unfold depthReleaseFor
  split
  · exact .refl s
  · exact depthRelease_rest ..

theorem depthReleaseAll_rest (s : State) : SameRest s (depthReleaseAll s) :=
  SameRest.foldl _ (fun s k => depthRelease_rest k s) ..

theorem keyAtTrigger_rest (i : RosterIx) (s : State) : SameRest s (keyAtTrigger i s) := by
  unfold keyAtTrigger
  split
  · exact .refl s
  · split
    · exact (leaveQueue_rest ..).trans (setKey_rest ..)
    · exact .refl s

theorem trigger_rest (i : RosterIx) (a : AntennaId) (s : State) : SameRest s (trigger i a s) := by
  unfold trigger
  split
  · next v e _ _ =>
    dsimp only
    have h : SameRest s ((keyAtTrigger i s).modRec i fun r => { r with state := .handing, handoff := some e }) :=
      (keyAtTrigger_rest ..).trans (modRec_rest ..)
    split
    · exact h.trans rfl
    · exact h.trans (SameRest.trans (t := { ((keyAtTrigger i s).modRec i fun r =>
        { r with state := .handing, handoff := some e }) with handoffs := _, seqCounter := _ }) rfl
        (startEntry_rest ..))
  · exact .refl s

theorem evaluate_rest (w : Bool) (i : RosterIx) (s : State) : SameRest s (evaluate w i s) := by
  unfold evaluate
  split
  · exact .refl s
  · split
    · split
      · exact .refl s
      · exact trigger_rest ..
    · exact .refl s

theorem endReserved_rest (m : SeatEnd) (x : Entry) (s : State) : SameRest s (endReserved m x s) := by
  unfold endReserved
  split
  · split
    · exact releaseSeat_rest ..
    · exact .refl s
    · exact unseat_rest ..
  · exact .refl s

theorem endTarget_rest (x : Entry) (s : State) : SameRest s (endTarget x s) := modCandidate_rest ..

theorem abortEntry_rest (m : SeatEnd) (e : EntryNo) (s : State) : SameRest s (abortEntry m e s) := by
  unfold abortEntry
  split
  · exact .refl s
  · exact (endReserved_rest ..).trans ((endTarget_rest ..).trans (freeEntry_rest ..))

theorem returnRecord_rest (x : Entry) (s : State) : SameRest s (returnRecord x s) := by
  unfold returnRecord
  split
  · exact .refl s
  · dsimp only
    split
    · exact (modRec_rest ..).trans ((markDue_rest ..).trans (applyPending_rest ..))
    · exact (modRec_rest ..).trans (applyPending_rest ..)

theorem abortReturn_rest (m : SeatEnd) (e : EntryNo) (s : State) : SameRest s (abortReturn m e s) := by
  unfold abortReturn
  split
  · exact .refl s
  · exact (abortEntry_rest ..).trans (returnRecord_rest ..)

theorem abortAndRelease_rest (e : EntryNo) (s : State) : SameRest s (abortAndRelease e s) := by
  unfold abortAndRelease
  split
  · exact .refl s
  · exact (abortReturn_rest ..).trans (depthReleaseFor_rest ..)

theorem abortHeld_rest (m : SeatEnd) (r : Record) (s : State) : SameRest s (abortHeld m r s) := by
  unfold abortHeld
  split
  · exact .refl s
  · exact abortEntry_rest ..

theorem releaseServing_rest (r : Record) (s : State) : SameRest s (releaseServing r s) := by
  unfold releaseServing
  split
  · exact .refl s
  · exact releaseSeat_rest ..

theorem completeEntry_rest (e : EntryNo) (s : State) : SameRest s (completeEntry e s) := by
  unfold completeEntry
  split
  · exact .refl s
  · split
    · dsimp only
      exact (releaseServing_rest ..).trans ((convertSeat_rest ..).trans ((modRec_rest ..).trans
        ((applyPending_rest ..).trans ((freeEntry_rest ..).trans (depthReleaseFor_rest ..)))))
    · exact .refl s

/-! ## The Quality Filter -/

theorem removeCandidate_rest (i : RosterIx) (a : AntennaId) (s : State) : SameRest s (removeCandidate i a s) := by
  unfold removeCandidate
  split
  · exact .refl s
  · dsimp only
    split
    · exact modRec_rest ..
    · split
      · exact (modRec_rest ..).trans (removeEntry_rest ..)
      · exact modRec_rest ..

theorem handOn_rest (i : RosterIx) (a : AntennaId) (s : State) : SameRest s (handOn i a s) := by
  unfold handOn
  split
  · exact .refl s
  · split
    · exact (candidateDwell_rest ..).trans (evaluate_rest ..)
    · exact candidateDwell_rest ..
    · exact modCandidate_rest ..

theorem insertCandidate_rest (i : RosterIx) (c : Candidate) (s : State) : SameRest s (insertCandidate i c s) :=
  modRec_rest ..

theorem updateCandidate_rest (i : RosterIx) (c : Candidate) (v : Byte) (s : State) :
    SameRest s (updateCandidate i c v s) := modRec_rest ..

theorem candidateReport_rest (i : RosterIx) (a : AntennaId) (v : Byte) (s : State) :
    SameRest s (candidateReport i a v s).1 := by
  unfold candidateReport
  split
  · exact .refl s
  · split
    · exact (updateCandidate_rest ..).trans (handOn_rest ..)
    · split
      · exact (insertCandidate_rest ..).trans (handOn_rest ..)
      · split
        · exact .refl s
        · split
          · exact (removeCandidate_rest ..).trans ((insertCandidate_rest ..).trans (handOn_rest ..))
          · exact .refl s

theorem servingUpdate_rest (i : RosterIx) (v : Byte) (s : State) : SameRest s (servingUpdate i v s) := modRec_rest ..

theorem servingEvaluation_rest (i : RosterIx) (s : State) : SameRest s (servingEvaluation i s) := by
  unfold servingEvaluation
  split
  · exact .refl s
  · split
    · exact evaluate_rest ..
    · exact .refl s

theorem servingReport_rest (i : RosterIx) (v : Byte) (s : State) : SameRest s (servingReport i v s) := by
  unfold servingReport
  split
  · exact .refl s
  · dsimp only
    refine SameRest.trans ?_ ((servingDwell_rest ..).trans (servingEvaluation_rest ..))
    split
    · exact (servingUpdate_rest ..).trans (modRec_rest ..)
    · split
      · split
        · exact (servingUpdate_rest ..).trans (abortAndRelease_rest ..)
        · exact servingUpdate_rest ..
      · exact (servingUpdate_rest ..).trans (modRec_rest ..)

theorem readmit_rest (i : RosterIx) (a : AntennaId) (v : Byte) (r : Record) (s : State) :
    SameRest s (readmit i a v r s).1 := by
  unfold readmit
  split
  · exact candidateReport_rest ..
  · exact (takeSeat_rest ..).trans ((modRec_rest ..).trans (applyPending_rest ..))

theorem applyPair_rest (a : AntennaId) (p : HeadsetId × Byte) (s : State) : SameRest s (applyPair a p s).1 := by
  unfold applyPair
  split
  · exact .refl s
  · split
    · exact .refl s
    · split
      · exact .refl s
      · exact servingReport_rest ..
      · exact completeEntry_rest ..
      · exact candidateReport_rest ..
      · exact readmit_rest ..

theorem applyPairs_rest (a : AntennaId) : ∀ (ps : List (HeadsetId × Byte)) (s : State),
    SameRest s (applyPairs a ps s).1
  | [], s => .refl s
  | p :: rest, s => (applyPair_rest a p s).trans (applyPairs_rest a rest _)

/-! ## The Roster -/

theorem freeRecord_rest (i : RosterIx) (s : State) : SameRest s (freeRecord i s) := setRec_rest ..

theorem leaveOwnQueue_rest (i : RosterIx) (r : Record) (s : State) : SameRest s (leaveOwnQueue i r s) := by
  unfold leaveOwnQueue
  split
  · exact leaveQueue_rest ..
  · exact .refl s

theorem detachRecord_rest (i : RosterIx) (r : Record) (s : State) : SameRest s (detachRecord i r s) :=
  (abortHeld_rest ..).trans ((leaveOwnQueue_rest ..).trans ((releaseServing_rest ..).trans
    ((freeRecord_rest ..).trans (depthReleaseFor_rest ..))))

theorem keyAtLoss_rest (i : RosterIx) (r : Record) (s : State) : SameRest s (keyAtLoss i r s) := by
  unfold keyAtLoss
  split
  · exact (leaveOwnQueue_rest ..).trans (setKey_rest ..)
  · exact setKey_rest ..
  · exact .refl s
  · exact .refl s

theorem enterAdrift_rest (m : SeatEnd) (i : RosterIx) (s : State) : SameRest s (enterAdrift m i s) := by
  unfold enterAdrift
  split
  · exact .refl s
  · dsimp only
    refine SameRest.trans ?_ (modRec_rest ..)
    split
    · exact (keyAtLoss_rest ..).trans (releaseServing_rest ..)
    · exact keyAtLoss_rest ..

theorem serveLostExpiry_rest (i : RosterIx) (s : State) : SameRest s (serveLostExpiry i s) := by
  unfold serveLostExpiry
  split
  · exact .refl s
  · exact (abortHeld_rest ..).trans ((enterAdrift_rest ..).trans (depthReleaseFor_rest ..))

theorem retainExpiry_rest (i : RosterIx) (s : State) : SameRest s (retainExpiry i s) := by
  unfold retainExpiry
  split
  · exact .refl s
  · exact (abortHeld_rest ..).trans ((freeRecord_rest ..).trans (depthReleaseFor_rest ..))

theorem changeListen_rest (i : RosterIx) (r : Record) (c : ListenSet) (s : State) :
    SameRest s (changeListen i r c s) := by
  unfold changeListen
  split
  · exact .refl s
  · dsimp only
    refine SameRest.trans ?_ (modRec_rest ..)
    split <;> split
    · exact .refl s
    · exact setCarriage_rest ..
    · exact setCarriage_rest ..
    · exact (setCarriage_rest ..).trans (setCarriage_rest ..)

theorem evictFor_rest (a : AntennaId) (s : State) : SameRest s (evictFor a s).state := by
  unfold evictFor
  split
  · exact .refl s
  · exact .refl s
  · split
    · exact .refl s
    · exact (abortHeld_rest ..).trans (freeRecord_rest ..)

/-! ## The Antenna Table -/

theorem bringUp_rest (l : LinkId) (a : AntennaId) (s : State) : SameRest s (bringUp l a s) :=
  (setAnt_rest ..).trans (clearBlocked_rest ..)

theorem abortInbound_rest (m : SeatEnd) (a : AntennaId) (s : State) : SameRest s (abortInbound m a s) :=
  SameRest.foldl _ (fun s e => abortReturn_rest m e s) ..

theorem loseMoving_rest (a : AntennaId) (i : RosterIx) (s : State) : SameRest s (loseMoving a i s) := by
  unfold loseMoving
  split
  · exact .refl s
  · split
    · exact .refl s
    · split
      · exact (enterAdrift_rest ..).trans (modEntry_rest ..)
      · exact .refl s

theorem loseServed_rest (a : AntennaId) (i : RosterIx) (s : State) : SameRest s (loseServed a i s) := by
  unfold loseServed
  split
  · exact .refl s
  · split
    · exact (abortHeld_rest ..).trans (enterAdrift_rest ..)
    · exact .refl s

theorem goDown_rest (a : AntennaId) (s : State) : SameRest s (goDown a s) :=
  (abortInbound_rest ..).trans ((SameRest.foldl _ (fun s i => loseMoving_rest a i s) ..).trans
    ((SameRest.foldl _ (fun s i => loseServed_rest a i s) ..).trans (setAnt_rest ..)))

theorem drainOffer_rest (a : AntennaId) (i : RosterIx) (s : State) : SameRest s (drainOffer a i s) := by
  unfold drainOffer
  split
  · exact .refl s
  · split
    · exact evaluate_rest ..
    · exact .refl s

theorem startDrain_rest (a : AntennaId) (s : State) : SameRest s (startDrain a s) :=
  (modAnt_rest ..).trans ((abortInbound_rest ..).trans ((SameRest.foldl _ (fun s i => drainOffer_rest a i s) ..).trans
    ((closureCheck_rest ..).trans (depthReleaseAll_rest ..))))

/-! ## Talk keys and the handoff exchange -/

theorem lowerReserved_rest (r : Record) (s : State) : SameRest s (lowerReserved r s) := by
  unfold lowerReserved
  split
  · exact .refl s
  · split
    · exact .refl s
    · split
      · exact lowerSeat_rest ..
      · exact .refl s

theorem lowerServing_rest (r : Record) (s : State) : SameRest s (lowerServing r s) := by
  unfold lowerServing
  split
  · exact .refl s
  · exact lowerSeat_rest ..

theorem releaseKey_rest (i : RosterIx) (r : Record) (s : State) : SameRest s (releaseKey i r s) := by
  unfold releaseKey
  split
  · exact .refl s
  · exact (lowerServing_rest ..).trans ((lowerReserved_rest ..).trans (setKey_rest ..))
  · exact (leaveOwnQueue_rest ..).trans (setKey_rest ..)
  · exact setKey_rest ..

theorem moveEntry_rest (x : Entry) (s : State) : SameRest s (moveEntry x s) :=
  (modEntry_rest ..).trans (modRec_rest ..)

/-! ## The expiries -/

theorem takeExpiry_rest (x : Expiry) (s : State) : SameRest s (takeExpiry x s) := by
  unfold takeExpiry
  split
  · unfold takeServeLost; split
    · exact .refl s
    · split
      · exact serveLostExpiry_rest ..
      · exact setRec_rest ..
  · unfold takeRetain; split
    · exact .refl s
    · split
      · exact retainExpiry_rest ..
      · exact setRec_rest ..
  · unfold takeCandidateAge; split
    · exact .refl s
    · split
      · exact removeCandidate_rest ..
      · exact setRec_rest ..
  · unfold takePrepare; split
    · exact .refl s
    · split
      · exact abortAndRelease_rest ..
      · exact modEntry_rest ..
  · unfold takeMove; split
    · exact .refl s
    · split
      · exact abortAndRelease_rest ..
      · exact modEntry_rest ..

end Sys2Proof.Machine
end

