-- ==== Sys2Proof/Laws/Planner.lean ====
section
/-! SUPPORT. What the shared operations of the Frame Planner and the Handoff Engine do where no key waits and no QUEUED
entry can start, in the terms of Safety.lean. -/

namespace Sys2Proof.Machine

/-! ## Seats -/

/-- Taking a seat (R48). -/
theorem takeSeat_eq (a : AntennaId) (p : Placement) (seat : Seat) (listen : ListenSet) (s : State) :
    takeSeat a p seat listen s = s.modAnt a (Antenna.occupied s.params p.group p.seat seat listen) := by
  simp [takeSeat, State.setPlan, State.setCarriage, State.modAnt, Antenna.occupied, Antenna.withPlan]

/-- Clearing blocked flags and writing an antenna commute. -/
theorem clearBlocked_modAnt (a b : AntennaId) (f : Antenna → Antenna) (s : State) :
    clearBlocked a (s.modAnt b f) = (clearBlocked a s).modAnt b f := rfl

@[simp] theorem clearBlocked_ant (a b : AntennaId) (s : State) : (clearBlocked a s).ant b = s.ant b := rfl
@[simp] theorem clearBlocked_params (a : AntennaId) (s : State) : (clearBlocked a s).params = s.params := rfl
@[simp] theorem clearBlocked_handoffs (a : AntennaId) (s : State) : (clearBlocked a s).handoffs = s.handoffs := rfl
@[simp] theorem clearBlocked_rec? (a : AntennaId) (i : RosterIx) (s : State) :
    (clearBlocked a s).rec? i = (s.rec? i).map (Record.unblock a) := by
  simp [clearBlocked, State.rec?, Vector.get]
  rfl

/-- An empty queue has no trial (R57). -/
theorem queueTrial_of_empty {a : AntennaId} {s : State} (h : (s.ant a).queue = []) : queueTrial a s = s := by
  simp [queueTrial, h, queueTrialLoop]

/-- Room made where nothing waits (R55). -/
theorem roomMade_of_empty {a : AntennaId} {s : State} (h : (s.ant a).queue = []) : roomMade a s = clearBlocked a s := by
  unfold roomMade
  exact queueTrial_of_empty (by simpa using h)

/-- The check of R36, at the one antenna. -/
theorem closureCheck_eq (a : AntennaId) (s : State) :
    closureCheck a s = s.modAnt a fun x =>
      if x.state = .draining ∧ planEmpty x.plan = true then { x with state := .closed, planDue := true } else x := by
  unfold closureCheck
  split
  · next h => simp only [State.modAnt, h, and_self, if_true]
  · next h => simp only [State.modAnt, h, if_false, State.setAnt_ant]

/-- The release of a seat where nothing waits (R53, R36). -/
theorem releaseSeat_of_empty {a : AntennaId} {g : GroupIx} {n : SeatNo} {listen : ListenSet} {s : State}
    (h : (s.ant a).queue = []) :
    releaseSeat a g n listen s = clearBlocked a (s.modAnt a (Antenna.vacated s.params g n listen)) := by
  have hu : unseat a g n listen s = s.modAnt a fun x =>
      { x.withPlan s.params (putSeat x.plan g n none) with carriage := lowerCarriage x.carriage listen } := by
    simp [unseat, State.setPlan, State.setCarriage, State.modAnt, Antenna.withPlan]
  unfold releaseSeat
  rw [hu, roomMade_of_empty (by simpa [Antenna.withPlan] using h), closureCheck_eq, clearBlocked_modAnt,
    clearBlocked_modAnt]
  simp only [State.modAnt, State.setAnt_setAnt, clearBlocked_ant, State.ant_setAnt_self]
  congr 1
  simp only [Antenna.vacated, Antenna.withPlan]
  split
  · next h => simp only [h, and_self, if_true]
  · next h => simp only [h, if_false]

/-- Lowering a burst where nothing waits (R52). -/
theorem lowerSeat_of_empty {a : AntennaId} {g : GroupIx} {n : SeatNo} {p : Profile} {s : State} {seat : Seat}
    (h : (s.ant a).queue = []) (hs : ((s.ant a).plan.get g).seat n = some seat) :
    lowerSeat a g n p s = clearBlocked a (s.modAnt a fun x =>
      x.withPlan s.params (putSeat x.plan g n (some (seat.lowered p)))) := by
  unfold lowerSeat
  dsimp only
  rw [roomMade_of_empty (by simpa [State.setPlan] using h), hs]
  rfl

/-- Clearing blocked flags after a record is written. -/
@[simp] theorem clearBlocked_setRec (a : AntennaId) (i : RosterIx) (r : Option Record) (s : State) :
    clearBlocked a (s.setRec i r) = (clearBlocked a s).setRec i (r.map (Record.unblock a)) := by
  simp only [clearBlocked, State.setRec]
  congr 1
  simp [Vector.map_set]

/-- The release of a record's serving seat where nothing waits (R53). -/
theorem releaseServing_of_empty {r : Record} {v : Serving} {s : State} (hv : r.serving = some v)
    (h : (s.ant v.antenna).queue = []) :
    releaseServing r s =
      clearBlocked v.antenna (s.modAnt v.antenna (Antenna.vacated s.params v.group v.seat r.listen)) := by
  unfold releaseServing
  rw [hv]
  exact releaseSeat_of_empty h

/-- Everything a re-placement that succeeds does (R51). -/
theorem rePlace?_some {s t : State} {i : RosterIx} {moved : Bool} (h : rePlace? s i = some (t, moved)) :
    ∃ r v p, s.rec? i = some r ∧ r.serving = some v ∧
      smallest (replaceOptions (putSeat (s.ant v.antenna).plan v.group v.seat none) s.params.guardTime
        r.profile.talkBurst v) = some p ∧
      airtimeOf s.params (putSeat (s.ant v.antenna).plan v.group v.seat none) + p.increase ≤ limitOf s.params ∧
      moved = (p.group != v.group) ∧
      t = (s.setPlan v.antenna (putSeat (putSeat (s.ant v.antenna).plan v.group v.seat none) p.group p.seat
        (some { headset := i, kind := .serving, burst := r.profile.talkBurst }))).setRec i
          (some { r with serving := some { v with group := p.group, seat := p.seat }, key := .on }) := by
  unfold rePlace? at h
  split at h
  · exact nomatch h
  · next r hr =>
    split at h
    · exact nomatch h
    · next v hv =>
      dsimp only at h
      split at h
      · exact nomatch h
      · next p hp =>
        split at h
        · next hl =>
          cases h
          exact ⟨r, v, p, hr, hv, hp, hl, rfl, by rw [State.modRec_of_some (by simpa using hr)]⟩
        · exact nomatch h

/-! ## The handoff table -/

/-- With no QUEUED entry for the link a depth release starts nothing (R111). -/
theorem depthRelease_of_none {k : LinkId} {s : State}
    (h : ∀ x ∈ s.handoffs, x.phase = .queued → s.owner x.target ≠ some k) : depthRelease k s = s := by
  unfold depthRelease
  cases s.handoffs.length with
  | zero => rfl
  | succ n =>
    unfold depthReleaseLoop
    split
    · have : s.handoffs.find? (s.queuedFor k) = none := by
        rw [List.find?_eq_none]
        intro x hx hq
        simp only [State.queuedFor, Bool.and_eq_true, beq_iff_eq] at hq
        exact h x hx hq.1 hq.2
      rw [this]
    · rfl

/-- With no QUEUED entry the depth releases start nothing (R31). -/
theorem depthReleaseAll_of_none {s : State} (h : ∀ x ∈ s.handoffs, x.phase ≠ .queued) : depthReleaseAll s = s := by
  unfold depthReleaseAll
  induction linkOrder with
  | nil => rfl
  | cons k rest ih => rw [List.foldl_cons, depthRelease_of_none fun x hx hq => absurd hq (h x hx)]; exact ih

/-- A record without an entry has none (R106). -/
theorem entryOf?_of_none {s : State} {r : Record} (h : r.handoff = none) : s.entryOf? r = none := by
  simp [State.entryOf?, h]

/-- A record with an entry in use has it (R106). -/
theorem entryOf?_of_some {s : State} {r : Record} {e : EntryNo} {x : Entry} (h : r.handoff = some e)
    (hx : s.entry? e = some x) : s.entryOf? r = some x := by
  simp [State.entryOf?, h, hx]

theorem depthLinkOf_of_none {s : State} {r : Record} (h : r.handoff = none) : depthLinkOf s r = none := by
  simp [depthLinkOf, entryOf?_of_none h]

theorem abortHeld_of_none {m : SeatEnd} {s : State} {r : Record} (h : r.handoff = none) : abortHeld m r s = s := by
  simp [abortHeld, h]

/-- A key that is not PENDING is not applied (R74). -/
theorem applyPending_of_some {i : RosterIx} {s : State} {r : Record} (h : s.rec? i = some r) (hk : r.key ≠ .pending) :
    applyPending i s = s := by
  simp [applyPending, h, hk]

end Sys2Proof.Machine
end

