-- ==== Sys2Proof/Laws/Exchange.lean ====
section
/-! SUPPORT. The shared operations that release seats, apply PENDING keys, abort handoffs and send headsets ADRIFT, said
once in the terms of Safety.lean, and what room made and a key applied keep of every record, antenna and entry. -/

namespace Sys2Proof.Machine

/-! ## What room made and a key applied keep -/

/-- A record without its key state, the group and seat of its serving seat, and its blocked flags. -/
def Record.face (r : Record) : Record :=
  { r with
    key := .off, serving := r.serving.map fun v => { v with group := 0, seat := 0 }
    candidates := r.candidates.map fun c => { c with blocked := false } }

/-- From s to t the handoff table, every antenna's state and owner, and every record's face are kept. -/
def Kept (s t : State) : Prop :=
  t.handoffs = s.handoffs ∧ (∀ a, (t.ant a).state = (s.ant a).state ∧ t.owner a = s.owner a) ∧
    ∀ j, (t.rec? j).map Record.face = (s.rec? j).map Record.face

namespace Kept

theorem refl (s : State) : Kept s s := ⟨rfl, fun _ => ⟨rfl, rfl⟩, fun _ => rfl⟩

theorem trans {s t u : State} (h : Kept s t) (k : Kept t u) : Kept s u :=
  ⟨k.1.trans h.1, fun a => ⟨(k.2.1 a).1.trans (h.2.1 a).1, (k.2.1 a).2.trans (h.2.1 a).2⟩,
    fun j => (k.2.2 j).trans (h.2.2 j)⟩

/-- A record in t has the face of the same record in s. -/
theorem back {s t : State} (h : Kept s t) {j : RosterIx} {q : Record} (hq : t.rec? j = some q) :
    ∃ r, s.rec? j = some r ∧ q.face = r.face := by
  have := h.2.2 j
  rw [hq] at this
  cases hr : s.rec? j with
  | none => rw [hr] at this; cases this
  | some r => rw [hr] at this; exact ⟨r, rfl, Option.some.inj this⟩

/-- A record in s is there in t, with the same face. -/
theorem forth {s t : State} (h : Kept s t) {j : RosterIx} {r : Record} (hr : s.rec? j = some r) :
    ∃ q, t.rec? j = some q ∧ q.face = r.face := by
  have := h.2.2 j
  rw [hr] at this
  cases hq : t.rec? j with
  | none => rw [hq] at this; cases this
  | some q => rw [hq] at this; exact ⟨q, rfl, Option.some.inj this⟩

end Kept

/-- Records of one face agree in everything that key grants and room made do not write. -/
theorem face_fields {q r : Record} (h : q.face = r.face) :
    q.state = r.state ∧ q.f16s = r.f16s ∧ q.weak = r.weak ∧ q.handoff = r.handoff ∧ q.profile = r.profile ∧
      q.listen = r.listen ∧ q.serveLost = r.serveLost ∧ q.retain = r.retain ∧
      q.serving.map Serving.antenna = r.serving.map Serving.antenna := by
  have ha : q.serving.map Serving.antenna = (q.face.serving).map Serving.antenna := by
    simp [Record.face, Function.comp_def]
  refine ⟨congrArg Record.state (a₁ := q.face) (a₂ := r.face) h, congrArg Record.f16s (a₁ := q.face) (a₂ := r.face) h,
    congrArg Record.weak (a₁ := q.face) (a₂ := r.face) h, congrArg Record.handoff (a₁ := q.face) (a₂ := r.face) h,
    congrArg Record.profile (a₁ := q.face) (a₂ := r.face) h, congrArg Record.listen (a₁ := q.face) (a₂ := r.face) h,
    congrArg Record.serveLost (a₁ := q.face) (a₂ := r.face) h, congrArg Record.retain (a₁ := q.face) (a₂ := r.face) h, ?_⟩
  rw [ha, h]
  simp [Record.face, Function.comp_def]

/-- Writing an antenna without changing its state or owner keeps the rest. -/
theorem modAnt_kept {s : State} {a : AntennaId} {f : Antenna → Antenna}
    (hf : (f (s.ant a)).state = (s.ant a).state ∧ (f (s.ant a)).owner = (s.ant a).owner) : Kept s (s.modAnt a f) := by
  refine ⟨rfl, fun b => ?_, fun _ => rfl⟩
  simp only [State.owner, State.ant_modAnt]
  split
  · next h => subst h; exact hf
  · exact ⟨rfl, rfl⟩

/-- Writing a record of the same face keeps the rest. -/
theorem setRec_kept {s : State} {i : RosterIx} {r q : Record} (hr : s.rec? i = some r) (hf : q.face = r.face) :
    Kept s (s.setRec i (some q)) := by
  refine ⟨rfl, fun _ => ⟨rfl, rfl⟩, fun j => ?_⟩
  rw [State.rec?_setRec]
  split
  · next h => subst h; simp [hr, hf]
  · rfl

theorem clearBlocked_kept (a : AntennaId) (s : State) : Kept s (clearBlocked a s) := by
  refine ⟨rfl, fun _ => ⟨rfl, rfl⟩, fun j => ?_⟩
  rw [clearBlocked_rec?, Option.map_map]
  congr 1
  funext r
  simp only [Function.comp, Record.face, Record.unblock, List.map_map]
  congr 2
  funext c
  simp only [Function.comp]
  split <;> rfl

theorem rePlace?_kept {s t : State} {i : RosterIx} {m : Bool} (h : rePlace? s i = some (t, m)) : Kept s t := by
  obtain ⟨r, v, p, hr, hv, -, -, -, rfl⟩ := rePlace?_some h
  exact (modAnt_kept ⟨rfl, rfl⟩).trans (setRec_kept (r := r) (by simpa [State.setPlan] using hr) (by simp [Record.face, hv]))

theorem queueTrialLoop_kept (a : AntennaId) : ∀ (n : Nat) (s : State), Kept s (queueTrialLoop a n s)
  | 0, s => .refl s
  | n + 1, s => by
    unfold queueTrialLoop
    split
    · exact .refl s
    · split
      · exact .refl s
      · next h => exact (rePlace?_kept h).trans ((modAnt_kept ⟨rfl, rfl⟩).trans (queueTrialLoop_kept a n _))

theorem roomMade_kept (a : AntennaId) (s : State) : Kept s (roomMade a s) :=
  (clearBlocked_kept a s).trans (queueTrialLoop_kept ..)

theorem pressed_kept {s : State} {i : RosterIx} {r : Record} (a : AntennaId) (hr : s.rec? i = some r) :
    Kept s (s.pressed i r a) := by
  unfold State.pressed
  split
  · next h =>
    split
    · exact (rePlace?_kept h).trans (roomMade_kept ..)
    · exact rePlace?_kept h
  · split
    · exact (modAnt_kept ⟨rfl, rfl⟩).trans (setRec_kept (r := r) (by simpa using hr) rfl)
    · exact setRec_kept hr rfl

theorem keyApplied_kept (i : RosterIx) (s : State) : Kept s (s.keyApplied i) := by
  unfold State.keyApplied
  split
  · exact .refl s
  · next h =>
    split
    · exact pressed_kept _ h
    · exact .refl s

/-- A seat released keeps the handoff table, every antenna's owner and every record's face; of the antennas' states it
can change only its own, from DRAINING to CLOSED. -/
theorem seatReleased_kept (s : State) (a : AntennaId) (g : GroupIx) (n : SeatNo) (listen : ListenSet) :
    let t := s.seatReleased a g n listen
    t.handoffs = s.handoffs ∧ (∀ b, t.owner b = s.owner b ∧ (b ≠ a → (t.ant b).state = (s.ant b).state)) ∧
      ∀ j, (t.rec? j).map Record.face = (s.rec? j).map Record.face := by
  have h : Kept s (roomMade a (s.modAnt a fun x =>
      { x.withPlan s.params (putSeat x.plan g n none) with carriage := lowerCarriage x.carriage listen })) :=
    (modAnt_kept ⟨rfl, rfl⟩).trans (roomMade_kept ..)
  refine ⟨h.1, fun b => ?_, h.2.2⟩
  have hb := h.2.1 b
  unfold State.seatReleased
  simp only [State.owner, State.ant_modAnt]
  split
  · next e =>
    subst e
    refine ⟨?_, fun hn => absurd rfl hn⟩
    split <;> exact hb.2
  · exact ⟨hb.2, fun _ => hb.1⟩

/-! ## Seats and keys -/

/-- The release of a seat (R53). -/
theorem releaseSeat_eq (a : AntennaId) (g : GroupIx) (n : SeatNo) (listen : ListenSet) (s : State) :
    releaseSeat a g n listen s = s.seatReleased a g n listen := by
  unfold releaseSeat State.seatReleased
  rw [closureCheck_eq]
  congr 2
  simp [unseat, State.setPlan, State.setCarriage, State.modAnt, Antenna.withPlan]

/-- A fresh KEY on of a served record (R67). -/
theorem keyPress_eq {i : RosterIx} {s : State} {r : Record} {v : Serving} (hr : s.rec? i = some r)
    (hv : r.serving = some v) : (keyPress i s).1 = s.pressed i r v.antenna := by
  unfold keyPress State.pressed
  simp only [hr, Option.bind_some, hv]
  cases h : rePlace? s i with
  | some p => rfl
  | none =>
    simp only [joinQueue, setKey]
    by_cases hl : (s.ant v.antenna).queue.length < 4
    · rw [if_pos (show _ < Config.maxQueue from hl), if_pos hl, State.modRec_of_some (r := r) (by simpa using hr)]
      simp only [hv]
    · rw [if_neg (show ¬ _ < Config.maxQueue from hl), if_neg hl, State.modRec_of_some hr]
      simp only [hv]

/-- A PENDING key of a record that has become SETTLED is applied (R74). -/
theorem applyPending_eq {i : RosterIx} {s : State} {r : Record} (hr : s.rec? i = some r) (hs : r.state = .settled) :
    applyPending i s = s.keyApplied i := by
  unfold applyPending State.keyApplied
  simp only [hr, hs, and_true]
  cases hk : r.key <;> cases hv : r.serving <;> simp
  · unfold keyPress
    simp [hr, hv]
  · exact keyPress_eq hr hv

/-- A key that is not PENDING is left. -/
theorem keyApplied_of_some {i : RosterIx} {s : State} {r : Record} (hr : s.rec? i = some r) (hk : r.key ≠ .pending) :
    s.keyApplied i = s := by
  unfold State.keyApplied
  simp only [hr]
  split
  · next h _ => exact absurd h hk
  · rfl

/-! ## Aborts -/

/-- Writing a record and writing the handoff table commute. -/
theorem setRec_withHandoffs (s : State) (i : RosterIx) (r : Option Record) (list : List Entry) :
    ({ s.setRec i r with handoffs := list } : State) = ({ s with handoffs := list } : State).setRec i r := rfl

theorem modRec_withHandoffs (s : State) (i : RosterIx) (f : Record → Record) (list : List Entry) :
    ({ s.modRec i f with handoffs := list } : State) = ({ s with handoffs := list } : State).modRec i f := by
  cases h : s.rec? i with
  | none => rw [State.modRec_of_none h, State.modRec_of_none (s := { s with handoffs := list }) h]
  | some r => rw [State.modRec_of_some h, State.modRec_of_some (s := { s with handoffs := list }) h]; rfl

/-- Two changes of one record are one. -/
theorem modRec_modRec (s : State) (i : RosterIx) (f g : Record → Record) :
    (s.modRec i f).modRec i g = s.modRec i fun r => g (f r) := by
  cases h : s.rec? i with
  | none => rw [State.modRec_of_none h, State.modRec_of_none h, State.modRec_of_none h]
  | some r =>
    rw [State.modRec_of_some h, State.modRec_of_some (State.rec?_setRec_self ..), State.modRec_of_some h,
      State.setRec_setRec]

/-- A re-placement does not read the handoff table. -/
theorem rePlace?_withHandoffs (s : State) (i : RosterIx) (list : List Entry) :
    rePlace? { s with handoffs := list } i =
      (rePlace? s i).map fun p => (({ p.1 with handoffs := list } : State), p.2) := by
  unfold rePlace?
  rw [show ({ s with handoffs := list } : State).rec? i = s.rec? i from rfl]
  cases hr : s.rec? i with
  | none => rfl
  | some r =>
    simp only
    cases r.serving with
    | none => rfl
    | some v =>
      simp only
      rw [show ({ s with handoffs := list } : State).ant v.antenna = s.ant v.antenna from rfl]
      cases smallest _ with
      | none => rfl
      | some p =>
        simp only
        split
        · simp only [Option.map_some, modRec_withHandoffs]
          rfl
        · rfl

/-- A queue trial does not read the handoff table. -/
theorem queueTrialLoop_withHandoffs (a : AntennaId) (list : List Entry) : ∀ (n : Nat) (s : State),
    queueTrialLoop a n { s with handoffs := list } = { queueTrialLoop a n s with handoffs := list }
  | 0, _ => rfl
  | n + 1, s => by
    unfold queueTrialLoop
    rw [show ({ s with handoffs := list } : State).ant a = s.ant a from rfl]
    split
    · rfl
    · next h rest _ =>
      rw [rePlace?_withHandoffs]
      cases rePlace? s h with
      | none => rfl
      | some p =>
        exact queueTrialLoop_withHandoffs a list n (p.1.modAnt a fun x => { x with queue := rest, planDue := true })

theorem roomMade_withHandoffs (a : AntennaId) (s : State) (list : List Entry) :
    roomMade a { s with handoffs := list } = { roomMade a s with handoffs := list } :=
  queueTrialLoop_withHandoffs a list _ (clearBlocked a s)

/-- A key is applied without reading the handoff table. -/
theorem keyApplied_withHandoffs (s : State) (i : RosterIx) (list : List Entry) :
    ({ s with handoffs := list } : State).keyApplied i = { s.keyApplied i with handoffs := list } := by
  unfold State.keyApplied State.pressed
  rw [show ({ s with handoffs := list } : State).rec? i = s.rec? i from rfl]
  cases s.rec? i with
  | none => rfl
  | some r =>
    simp only
    split
    · next v _ _ =>
      rw [rePlace?_withHandoffs]
      cases rePlace? s i with
      | none =>
        rw [show ({ s with handoffs := list } : State).ant v.antenna = s.ant v.antenna from rfl]
        simp only [Option.map_none]
        split <;> rfl
      | some p =>
        simp only [Option.map_some]
        split
        · exact roomMade_withHandoffs ..
        · rfl
    · rfl

/-- An entry in use is freed together with the abort's change of its candidate entry. -/
theorem endTarget_freeEntry {s : State} {x : Entry} (hx : s.entry? x.num = some x) :
    (endTarget x s).freeEntry x.num =
      ({ s with handoffs := s.handoffs.filter fun y => y.num != x.num } : State).modRec x.headset (Record.unlinked x) := by
  unfold endTarget modCandidate
  rw [State.freeEntry_of_some (x := x) (by simpa using hx), modRec_withHandoffs, modRec_modRec]
  simp only [State.modRec_handoffs]
  congr 1
  funext r
  simp only [Record.unlinked, mapCandidate]
  congr 2
  funext c
  split <;> [split <;> rfl; rfl]

/-- Step 1 of an abort keeps the handoff table. -/
theorem endReserved_handoffs (m : SeatEnd) (x : Entry) (s : State) : (endReserved m x s).handoffs = s.handoffs := by
  unfold endReserved
  split
  · split
    · rw [releaseSeat_eq]; exact (seatReleased_kept ..).1
    · rfl
    · rfl
  · rfl

/-- An abort without return, its reserved seat released (R5, R130). -/
theorem abortEntry_released {s : State} {x : Entry} (hx : s.entry? x.num = some x) :
    abortEntry .released x.num s = s.torn x false := by
  unfold abortEntry
  simp only [hx]
  rw [endTarget_freeEntry (by rw [State.entry?, endReserved_handoffs]; exact hx)]
  unfold State.torn endReserved
  rcases x.reserved with _ | ⟨g, n⟩ <;> rcases s.rec? x.headset with _ | r <;>
    simp [releaseSeat_eq]

/-- An abort without return, its reserved seat dropped (R26, R130). -/
theorem abortEntry_dropped {s : State} {x : Entry} (hx : s.entry? x.num = some x) :
    abortEntry .dropped x.num s = s.torn x true := by
  unfold abortEntry
  simp only [hx]
  rw [endTarget_freeEntry (by rw [State.entry?, endReserved_handoffs]; exact hx)]
  unfold State.torn endReserved
  rcases x.reserved with _ | ⟨g, n⟩ <;> rcases s.rec? x.headset with _ | r <;> simp

/-- Steps 5 and 6 of an abort (R130, R131). -/
theorem returnRecord_eq (x : Entry) (t : State) :
    returnRecord x t =
      match (t.rec? x.headset).bind Record.serving with
      | none => t
      | some v =>
        let u := t.modRec x.headset fun r => { r with state := .settled, serveLost := some Timer.start }
        (if x.phase = .moving then u.markDue v.antenna else u).keyApplied x.headset := by
  unfold returnRecord
  cases hr : t.rec? x.headset with
  | none => rfl
  | some r =>
    cases hv : r.serving with
    | none => simp [hv]
    | some v =>
      simp only [Option.bind_some, hv]
      rw [State.modRec_of_some hr]
      have h := State.rec?_setRec_self t x.headset (some { r with state := .settled, serveLost := some Timer.start })
      split
      · exact applyPending_eq (r := { r with state := .settled, serveLost := some Timer.start }) h rfl
      · exact applyPending_eq h rfl

/-- An abort with return, its reserved seat released (R130). -/
theorem abortReturn_released {s : State} {x : Entry} (hx : s.entry? x.num = some x) :
    abortReturn .released x.num s = s.recalled x false := by
  unfold abortReturn State.recalled
  rw [hx]
  exact (congrArg _ (abortEntry_released hx)).trans (returnRecord_eq ..)

/-- An abort with return, its reserved seat dropped (R26, R27). -/
theorem abortReturn_dropped {s : State} {x : Entry} (hx : s.entry? x.num = some x) :
    abortReturn .dropped x.num s = s.recalled x true := by
  unfold abortReturn State.recalled
  rw [hx]
  exact (congrArg _ (abortEntry_dropped hx)).trans (returnRecord_eq ..)

/-- An abort with return of a started entry, and its depth release (R130, R111). -/
theorem abortAndRelease_eq {s : State} {x : Entry} (hx : s.entry? x.num = some x) (hp : x.phase ≠ .queued) :
    abortAndRelease x.num s = depthReleaseFor (s.owner x.target) (s.recalled x false) := by
  unfold abortAndRelease
  simp only [hx, depthLink, hp, if_false, abortReturn_released hx]

/-- A record's entry is aborted without return (R5). -/
theorem abortHeld_eq {s : State} {r : Record} {x : Entry} (hx : s.entryOf? r = some x) :
    abortHeld .released r s = s.torn x false := by
  cases hr : r.handoff with
  | none => simp [State.entryOf?, hr] at hx
  | some e =>
    have he : s.entry? e = some x := by simpa [State.entryOf?, hr] using hx
    obtain rfl := State.entry?_num he
    simp only [abortHeld, hr]
    exact abortEntry_released he

/-- The link whose depth the end of a record's entry lowers (R109). -/
theorem depthLinkOf_eq (s : State) (r : Record) : depthLinkOf s r = s.loweredLink r := by
  cases h : s.entryOf? r with
  | none => simp [depthLinkOf, State.loweredLink, State.heldTarget, h]
  | some x =>
    by_cases hp : x.phase = .queued <;>
      simp [depthLinkOf, State.loweredLink, State.heldTarget, depthLink, h, hp]

/-- The target candidate of a record (R95). -/
theorem targetOf?_eq (s : State) (r : Record) : s.targetOf? r = s.heldTarget r := rfl

/-- Going ADRIFT with a dropped seat (R13, R26). -/
theorem enterAdrift_dropped (i : RosterIx) (s : State) : enterAdrift .dropped i s = s.gone i := by
  unfold enterAdrift State.gone State.queueLeft
  cases hr : s.rec? i with
  | none => rfl
  | some r =>
    simp only [reduceCtorEq, if_false]
    cases hk : r.key
    case waiting =>
      cases hv : r.serving <;>
        simp only [keyAtLoss, hk, leaveOwnQueue, hv, setKey, leaveQueue] <;>
        rw [modRec_modRec, State.modRec_of_some (r := r) (by simpa using hr)] <;> simp [Record.lost, hk]
    case on =>
      simp only [keyAtLoss, hk, setKey]
      rw [modRec_modRec, State.modRec_of_some hr]
      simp [Record.lost, hk]
    all_goals
      simp only [keyAtLoss, hk]
      rw [State.modRec_of_some hr]
      simp [Record.lost, hk]

/-! ## Queues, bursts and starts -/

/-- A WAITING headset leaves its queue (R71). -/
theorem leaveOwnQueue_eq (i : RosterIx) (r : Record) (s : State) : leaveOwnQueue i r s = s.queueLeft i r := rfl

/-- A WAITING headset leaves its queue at the trigger, its key becoming PENDING (R73). -/
theorem keyAtTrigger_eq {i : RosterIx} {s : State} {r : Record} (hr : s.rec? i = some r) :
    keyAtTrigger i s =
      if r.key = .waiting ∧ r.serving ≠ none then (s.queueLeft i r).setRec i (some { r with key := .pending }) else s := by
  unfold keyAtTrigger State.queueLeft
  simp only [hr]
  cases hk : r.key <;> cases hv : r.serving <;> simp [setKey, leaveQueue]
  rw [State.modRec_of_some (r := r) (by simpa using hr)]
  simp only [hv]

/-- A seat carries the talk burst exactly where its place shows that burst. -/
theorem keyedSeat_iff (s : State) (a : AntennaId) (g : GroupIx) (n : SeatNo) (p : Profile) :
    s.keyedSeat a g n p = true ↔ burstOf (((s.ant a).plan.get g).seat n) = p.talkBurst := by
  unfold State.keyedSeat burstOf
  cases ((s.ant a).plan.get g).seat n with
  | none => cases p <;> simp [Profile.talkBurst]
  | some y => simp

/-- A seat is lowered in place (R52). -/
theorem lowerSeat_eq (a : AntennaId) (g : GroupIx) (n : SeatNo) (p : Profile) (s : State) :
    lowerSeat a g n p s = s.burstLowered a g n p := rfl

/-- The reserved seat becomes the serving seat (R54). -/
theorem convertSeat_eq (a : AntennaId) (g : GroupIx) (n : SeatNo) (r : Record) (s : State) :
    convertSeat a g n r s = s.converted a g n r := by
  unfold convertSeat State.converted
  simp only [keyedSeat_iff]
  rfl

/-- A start that fails frees the entry and returns the record (R110, step 4). -/
theorem removeEntry_eq {s : State} {x : Entry} {r : Record} (hx : s.entry? x.num = some x)
    (hr : s.rec? x.headset = some r) : removeEntry x.num x.headset s = s.startFailed x r false := by
  unfold removeEntry State.startFailed
  rw [State.freeEntry_of_some hx, modRec_modRec, State.modRec_of_some (r := r) (by exact hr)]
  exact applyPending_eq (r := { r with state := .settled, handoff := none }) (State.rec?_setRec_self ..) rfl

/-- The start of an entry (R110): with its target no longer ACTIVE or no longer a candidate it fails; where a seat fits it
is taken; where none fits the start fails with blocking. -/
theorem startEntry_eq {s : State} {x : Entry} {r : Record} (hx : s.entry? x.num = some x)
    (hr : s.rec? x.headset = some r) :
    startEntry x.num s =
      if (s.ant x.target).state ≠ .active ∨ hasCandidate r.candidates x.target = false then s.startFailed x r false
      else match place? s x.target r.currentBurst with
        | none => s.startFailed x r true
        | some p => s.started x r p := by
  unfold startEntry
  simp only [hx, hr]
  split
  · exact removeEntry_eq hx hr
  · cases place? s x.target r.currentBurst with
    | none =>
      have hb : blockCandidate x.headset x.target s = s.setRec x.headset (some { r with
          candidates := mapCandidate r.candidates x.target fun c => { c with blocked := true, dwell := 0 } }) :=
        State.modRec_of_some hr _
      simp only
      rw [hb, removeEntry_eq (s := s.setRec _ _) hx (State.rec?_setRec_self ..)]
      unfold State.startFailed
      rw [setRec_withHandoffs, State.setRec_setRec]
      simp only [Bool.false_eq_true, if_false, if_true, mapCandidate, State.setRec_handoffs]
    | some p =>
      simp only [markStarted, modCandidate, State.started]
      rw [takeSeat_eq, State.modRec_of_some (r := r) (by exact hr)]
      rfl

end Sys2Proof.Machine
end

