-- ==== Sys2Proof/Laws/Links.lean ====
section
/-! SUPPORT. The shared operations of the card links: what is taken before a command, the arrival of a request, and the
execution of a request with its reply. -/

namespace Sys2Proof.Machine

/-! ## The orders -/

/-- The numbers below n, ascending, are all of them. -/
theorem mem_ascending {n : Nat} (i : Fin n) : i ∈ ascending n := by
  unfold ascending
  rw [List.mem_filterMap]
  exact ⟨i.val, List.mem_range.2 i.isLt, by simp⟩

/-- The numbers below n stand in ascending order. -/
theorem ascending_pairwise (n : Nat) : (ascending n).Pairwise (fun i j => i < j) := by
  unfold ascending
  rw [List.pairwise_filterMap]
  refine List.Pairwise.imp ?_ (List.pairwise_lt_range (n := n))
  intro a b hab x hx y hy
  split at hx <;> split at hy <;> simp at hx hy
  subst hx hy
  exact hab

/-- The numbers below n are the library's list of them. -/
theorem ascending_eq_finRange (n : Nat) : ascending n = List.finRange n := by
  have h : (ascending n).map Fin.val = (List.finRange n).map Fin.val := by
    rw [List.map_coe_finRange_eq_range]
    unfold ascending
    rw [List.map_filterMap]
    conv => rhs; rw [← List.filterMap_some (l := List.range n)]
    apply List.filterMap_congr
    intro k hk
    simp [List.mem_range.1 hk]
  exact List.map_injective_iff.2 Fin.val_injective h

/-! ## What is taken before a command -/

theorem transmit_of_none {l : LinkId} {s : State} (h : txChoice l s = none) : transmit l s = s := by
  simp [transmit, h]

/-- With nothing to send on any idle transmitter, nothing begins. -/
theorem transmitAll_of_settled {s : State} (h : TransmittersSettled s) : transmitAll s = s := by
  unfold transmitAll
  induction linkOrder with
  | nil => rfl
  | cons l rest ih => rw [List.foldl_cons, transmit_of_none (h l)]; exact ih

/-- With nothing left to take, nothing is taken. -/
theorem settle_of_quiet {s : State} (h : Quiet s) : settle s = s := by
  have h0 : expiriesNow s = [] := h.1
  simp [settle, h0, settleLoop, transmitAll_of_settled h.2]

/-- With no expiry due at all, a frame boundary finds nothing to take. -/
theorem settleAll_of_none {s : State} (h : NoExpiryDue s) (ht : TransmittersSettled s) : settleAll s = s := by
  have h0 : dueExpiries s = [] := h
  simp [settleAll, h0, settleLoop, transmitAll_of_settled ht]

/-- With no expiry due at all, none is taken before an event either. -/
theorem quiet_of_none {s : State} (h : NoExpiryDue s) (ht : TransmittersSettled s) : Quiet s := by
  have h0 : dueExpiries s = [] := h
  exact ⟨by simp [expiriesNow, h0], ht⟩

/-- An expiry is left to a later row only where that row waits (R123, R141). -/
theorem mem_expiriesNow {s : State} {x : Expiry} :
    x ∈ expiriesNow s ↔ x ∈ dueExpiries s ∧ x ∉ laterExpiries s.pending := by
  simp [expiriesNow]

/-- A record is due at an index exactly where one of its timers is. -/
theorem noExpiryDue_of {s : State} (hr : ∀ i r, s.rec? i = some r → recordExpiries i r = [])
    (he : ∀ x ∈ s.handoffs, entryExpiries x = []) : NoExpiryDue s := by
  unfold NoExpiryDue dueExpiries
  rw [List.append_eq_nil_iff, List.flatMap_eq_nil_iff, List.flatMap_eq_nil_iff]
  refine ⟨fun i _ => ?_, he⟩
  split
  · rfl
  · next r h => exact hr i r h

/-! ## A request -/

theorem whenRunning_of {s : State} (h : s.resetHeld = false) (f : State → State) :
    whenRunning s f = .next (f s) := by
  simp [whenRunning, h]

/-- A request that arrives at a free link is executed at once (R149, R150). -/
theorem submit_of_free {l : LinkId} {q : Request} {s : State} (hs : (s.link l).slots = [])
    (hr : (s.link l).reply = none) : submit l q s = execute l q s := by
  have hback : (s.modLink l fun x => { x with slots := [] }) = s := by
    unfold State.modLink
    conv => rhs; rw [← State.setLink_link s l]
    congr 1
    rw [← hs]
  unfold submit
  rw [if_pos (by rw [hs]; decide)]
  unfold executeOldest
  simp only [State.link_modLink_self, hs, hr, List.nil_append, State.modLink_modLink]
  exact congrArg (execute l q) hback

/-- A request that arrives while the reply slot is full waits (R149, R150). -/
theorem submit_of_waiting {l : LinkId} {q : Request} {s : State} (hs : (s.link l).slots.length < 2)
    (hr : (s.link l).reply ≠ none) :
    submit l q s = s.modLink l fun x => { x with slots := x.slots ++ [q] } := by
  unfold submit
  rw [if_pos (show _ < Config.requestSlots from hs)]
  unfold executeOldest
  split
  · next h _ => simp at h; exact absurd h hr
  · rfl

/-- A request that finds both slots full is lost (R149). -/
theorem submit_of_full {l : LinkId} {q : Request} {s : State} (hs : 2 ≤ (s.link l).slots.length) :
    submit l q s = s.modLink l fun x => { x with flags := x.flags ||| 4#7 } := by
  unfold submit
  rw [if_neg (by simp only [Config.requestSlots]; omega)]
  rfl

/-- A request that arrives when the part is ready is executed. -/
theorem request_of_ready {l : LinkId} {s : State} (h : Ready l s) (tag : Byte) (ask : Ask) :
    request l tag ask s = .next (execute l (.make tag ask) s) := by
  unfold request
  rw [whenRunning_of h.1, settle_of_quiet h.2.1, submit_of_free h.2.2.1 h.2.2.2]

/-- What an executed request leaves: the answer's state with the reply (R150, R151). -/
theorem execute_of_perform {l : LinkId} {q : Request} {s t : State} {status : Status} {fields : List Byte}
    (h : perform l q s = { state := t, status := status, fields := fields }) (hq : q.ask ≠ .unknown) :
    execute l q s = t.replied l q.kind q.tag status fields := by
  unfold execute
  rw [h]
  simp only [State.replied, State.modLink, replyBody, Request.replyKind, hq, if_false]

/-- An antenna field that spells an antenna names it (R161). -/
theorem antennaOf?_byteOf (a : AntennaId) : antennaOf? (byteOf a.val) = some a := by
  have h : (byteOf a.val).toNat = a.val := by
    unfold byteOf
    rw [BitVec.toNat_ofNat]
    exact Nat.mod_eq_of_lt (by omega)
  unfold antennaOf?
  rw [dif_pos (by omega)]
  exact congrArg some (Fin.ext h)

/-- An antenna field above 63 names none (R161). -/
theorem antennaOf?_of_high {b : Byte} (h : 63 < b.toNat) : antennaOf? b = none := by
  unfold antennaOf?
  rw [dif_neg (by omega)]

end Sys2Proof.Machine
end

