-- ==== Sys2Proof/Laws/Requests.lean ====
section
/-! SUPPORT. What a request row does when the part is ready, and what executing any request leaves of its link. -/

namespace Sys2Proof.Machine

/-- A request whose execution is known leaves that state with its reply (R150, R151). -/
theorem request_of_perform {l : LinkId} {s t : State} (h : Ready l s) (tag : Byte) (ask : Ask) {status : Status}
    {fields : List Byte} (k : Byte) (hk : ask.kind? = some k)
    (hp : perform l (.make tag ask) s = { state := t, status := status, fields := fields }) :
    request l tag ask s = .next (t.replied l k tag status fields) := by
  rw [request_of_ready h, execute_of_perform hp]
  · simp [Request.make, hk]
  · intro hc
    simp only [Request.make] at hc
    subst hc
    exact nomatch hk

/-- A request that is refused changes nothing but its reply slot. -/
theorem request_of_refuse {l : LinkId} {s : State} (h : Ready l s) (tag : Byte) (ask : Ask) {status : Status} (k : Byte)
    (hk : ask.kind? = some k) (hp : perform l (.make tag ask) s = .refuse s status) :
    request l tag ask s = .next (s.replied l k tag status []) :=
  request_of_perform h tag ask k hk hp

/-- The fields of a LEVELS body (R161); a split of `Ask.ofFields` itself is too deep to make. -/
theorem Ask.ofFields_levels (a n : Byte) (rest : List Byte) :
    Ask.ofFields 0x0A (a :: n :: rest) = if rest.length = 4 * n.toNat then .levels a (pairsOf rest) else .badLength := rfl

/-- A body of a known kind without the length that its kind requires (R160). -/
theorem Ask.ofFields_of_misfit {kind tag : Byte} {fields : List Byte} (hk : kind ∈ requestKinds)
    (h : lengthFits (kind :: tag :: fields) = false) : Ask.ofFields kind fields = .badLength := by
  unfold requestKinds at hk
  fin_cases hk
  iterate 9 all_goals try rcases fields with _ | ⟨_, fields⟩
  all_goals first
    | rfl
    | (exfalso; simp [lengthFits, kindLength] at h; done)
    | (rw [Ask.ofFields_levels, if_neg]; simp [lengthFits] at h; simp; omega)

/-- Every request row is the arrival of its request (R149). -/
theorem exec_of_requestOf {c : Instr} {l : LinkId} {q : Request} (h : requestOf c = some (l, q)) (s : State) :
    exec c s = whenRunning s fun s => submit l q (settle s) := by
  cases c <;> simp only [requestOf, Option.some.injEq, Prod.mk.injEq, reduceCtorEq] at h
  case setAirtimeParameter l' tag p v =>
    cases p <;> simp only [Option.some.injEq, Prod.mk.injEq] at h <;> obtain ⟨rfl, rfl⟩ := h <;> rfl
  all_goals (obtain ⟨rfl, rfl⟩ := h; rfl)

/-- What executing a request leaves of a link: its request slots, its assembler, its transmitter, and the frame number. -/
def LinkKeep (l : LinkId) (s t : State) : Prop :=
  (t.link l).slots = (s.link l).slots ∧ (t.link l).asm = (s.link l).asm ∧ (t.link l).tx = (s.link l).tx ∧
    t.frameNumber = s.frameNumber

theorem LinkKeep.of {l : LinkId} {s t : State} (h : SameRest s t) : LinkKeep l s t := by
  simp only [LinkKeep, h.link, h.frameNumber, and_self]

theorem LinkKeep.refl {l : LinkId} {s : State} : LinkKeep l s s := .of (SameRest.refl s)

theorem LinkKeep.trans {l : LinkId} {s t u : State} (h : LinkKeep l s t) (k : LinkKeep l t u) : LinkKeep l s u :=
  ⟨k.1.trans h.1, k.2.1.trans h.2.1, k.2.2.1.trans h.2.2.1, k.2.2.2.trans h.2.2.2⟩

theorem withHeadset_keep {l : LinkId} {h : HeadsetId} {m : Status} {s : State} {act : RosterIx → Record → Answer}
    (ha : ∀ i r, LinkKeep l s (act i r).state) : LinkKeep l s (withHeadset h m s act).state := by
  unfold withHeadset
  repeat' split
  all_goals first | exact ha _ _ | exact .refl

theorem antennaRequest_keep {k l : LinkId} {a : Byte} {s : State} {f g : AntennaId → Answer}
    (hf : ∀ a, LinkKeep k s (f a).state) (hg : ∀ a, LinkKeep k s (g a).state) :
    LinkKeep k s (antennaRequest l a s f g).state := by
  unfold antennaRequest
  repeat' split
  all_goals first | exact hf _ | exact hg _ | exact .refl

theorem antennaOk_state (a : AntennaId) (s : State) : (antennaOk a s).state = s := rfl

theorem airtimeChanged_rest (limit : Nat) (s : State) (a : AntennaId) : SameRest s (airtimeChanged limit s a) := by
  unfold airtimeChanged
  dsimp only
  split
  · exact SameRest.refl _
  · split
    · exact (setPlan_rest ..).trans (roomMade_rest ..)
    · exact setPlan_rest ..

theorem storeAirtime_keep (p : Params) (l : LinkId) (s : State) : LinkKeep l s (storeAirtime p s) :=
  LinkKeep.trans (t := { s with params := p }) ⟨rfl, rfl, rfl, rfl⟩
    (.of (SameRest.foldl _ (airtimeChanged_rest _) _ _))

theorem storeParam_keep {q : Param} {v : Nat} {l : LinkId} {s t : State} (h : storeParam q v s = .ok t) :
    LinkKeep l s t := by
  unfold storeParam at h
  dsimp only at h
  have hw : LinkKeep l s { s with params := s.params.write q v } := ⟨rfl, rfl, rfl, rfl⟩
  split at h
  · cases h
    exact .refl
  · split at h
    · split at h
      · rw [← Except.ok.inj h]
        exact storeAirtime_keep ..
      · cases h
    · split at h
      · split at h
        · cases h
        · split at h
          · rw [← Except.ok.inj h]
            exact hw.trans (.of (depthReleaseAll_rest _))
          · rw [← Except.ok.inj h]
            exact hw
      · rw [← Except.ok.inj h]
        exact hw

theorem attachNew_keep {k : LinkId} {h : HeadsetId} {a : AntennaId} {c : Option Profile} {p : Profile} {set : ListenSet}
    {v : Byte} {s : State} : LinkKeep k s (attachNew h a c p set v s).state := by
  unfold attachNew
  split
  · exact .refl
  · split
    · exact .refl
    · dsimp only
      split
      · refine .of (SameRest.trans (evictFor_rest a s) (SameRest.trans ?_ (depthReleaseFor_rest ..)))
        split
        · exact ((setRec_rest ..).trans (takeSeat_rest ..)).trans (roomMade_rest ..)
        · exact (setRec_rest ..).trans (takeSeat_rest ..)
      · exact .refl

theorem attachAdrift_keep {k : LinkId} {i : RosterIx} {r : Record} {a : AntennaId} {c : Option Profile} {p : Profile}
    {set : ListenSet} {v : Byte} {s : State} : LinkKeep k s (attachAdrift i r a c p set v s).state := by
  unfold attachAdrift
  dsimp only
  split
  · exact .of ((abortHeld_rest ..).trans (depthReleaseFor_rest ..))
  · exact .of ((abortHeld_rest ..).trans ((takeSeat_rest ..).trans ((modRec_rest ..).trans
      ((applyPending_rest ..).trans (depthReleaseFor_rest ..)))))

theorem attachSeated_keep {k : LinkId} {i : RosterIx} {r : Record} {a : AntennaId} {s : State} :
    LinkKeep k s (attachSeated i r a s).state := by
  unfold attachSeated
  split <;> exact .refl

theorem doAttach_keep {k l : LinkId} {h : HeadsetId} {a c : Byte} {set : ListenSet} {v : Byte} {s : State} :
    LinkKeep k s (doAttach l h a c set v s).state := by
  unfold doAttach
  split
  · split
    · exact .refl
    · split
      · split
        · exact .refl
        · exact attachNew_keep
      · split
        · exact attachSeated_keep
        · split
          · exact .refl
          · exact attachAdrift_keep
  · exact .refl

/-- What executing any request leaves of every link (R149, R150). -/
theorem perform_keep (k l : LinkId) (q : Request) (s : State) : LinkKeep k s (perform l q s).state := by
  unfold perform
  split
  · refine antennaRequest_keep (fun a => ?_) (fun a => ?_) <;> rw [antennaOk_state]
    · exact .of (bringUp_rest l a s)
    · exact .refl
  · refine antennaRequest_keep (fun a => ?_) (fun a => ?_) <;> rw [antennaOk_state]
    · exact .refl
    · exact .of ((goDown_rest a s).trans (depthReleaseAll_rest _))
  · refine antennaRequest_keep (fun a => .refl) (fun a => ?_)
    rw [antennaOk_state]
    split
    · exact .of (startDrain_rest a s)
    · exact .refl
  · refine antennaRequest_keep (fun a => .refl) (fun a => ?_)
    rw [antennaOk_state]
    split
    · exact .refl
    · exact .of (modAnt_rest ..)
  · exact .of ((SameRest.foldl _ (fun s a => goDown_rest a s) _ _).trans (depthReleaseAll_rest _))
  · exact doAttach_keep
  · exact withHeadset_keep fun i r => .of (detachRecord_rest ..)
  · unfold doLevels
    repeat' split
    all_goals first | exact .refl | exact .of (applyPairs_rest ..)
  · exact withHeadset_keep fun i r => .of (changeListen_rest ..)
  · unfold doKey
    split
    · exact .refl
    · refine withHeadset_keep fun i r => .of ?_
      unfold keyOn keyAnswer
      repeat' split
      all_goals first
        | exact SameRest.refl _ | exact keyPress_rest .. | exact setKey_rest .. | exact releaseKey_rest ..
  · refine withHeadset_keep fun i r => .of ?_
    repeat' split
    all_goals first | exact SameRest.refl _ | exact moveEntry_rest ..
  · refine withHeadset_keep fun i r => .of ?_
    repeat' split
    all_goals first | exact SameRest.refl _ | exact abortAndRelease_rest ..
  · unfold doArrived
    split
    · exact .refl
    · refine withHeadset_keep fun i r => .of ?_
      unfold arrivedAt
      repeat' split
      all_goals first | exact SameRest.refl _ | exact completeEntry_rest ..
  · refine withHeadset_keep fun i r => .of ?_
    repeat' split
    all_goals first | exact SameRest.refl _ | exact abortAndRelease_rest ..
  · exact withHeadset_keep fun i r => .refl
  · unfold doQueryAntenna; split <;> exact .refl
  · exact .refl
  · unfold doSet setParam
    repeat' split
    all_goals first | exact .refl | exact storeParam_keep ‹_›
  · unfold doGet; split <;> exact .refl
  · unfold doTrim; split
    · exact .refl
    · exact ⟨rfl, rfl, rfl, rfl⟩
  · unfold doClearFlags LinkKeep
    simp only [State.link_modLink]
    split
    · next h => subst h; exact ⟨rfl, rfl, rfl, rfl⟩
    · exact ⟨rfl, rfl, rfl, rfl⟩
  · exact .refl
  · exact .refl

end Sys2Proof.Machine
end

