-- ==== Sys2Proof/Tests/Slice0.lean ====
section
/-! SUPPORT. Own tests: the well-formedness smoke, a few single steps with results taken from the manual, and for every
statement with hypotheses a concrete state and operands that meet them. -/

namespace Sys2Proof.Tests

-- One theorem is checked after another: each evaluation takes memory of its own.
set_option Elab.async false

open Sys2Proof Sys2Proof.Machine

/-! ## States -/

/-- A headset served at antenna a, group g, seat 0. -/
def served (id : HeadsetId) (a : AntennaId) (g : GroupIx) : Record :=
  { id := id, state := .settled, classCode := none, profile := .p1, listen := 3, key := .off
    serving := some { antenna := a, group := g, seat := 0 }, f16s := 1600, weak := false
    serveLost := some Timer.start, candidates := [], retain := none, handoff := none }

/-- An ADRIFT headset. -/
def adrift (id : HeadsetId) (key : KeyState) (count : Nat) : Record :=
  { served id 0 0 with
    state := .adrift, key := key, serving := none, serveLost := none, retain := some { count := count, due := false } }

/-- A candidate entry. -/
def cand (a : AntennaId) (f dwell : Nat) (age : Option Timer) : Candidate :=
  { antenna := a, f16 := f, dwell := dwell, age := age, blocked := false }

/-- A record with its seat taken. -/
def sit (i : RosterIx) (r : Record) (s : State) : State :=
  match r.serving with
  | none => s.setRec i (some r)
  | some v =>
    (s.modAnt v.antenna (Antenna.occupied s.params v.group v.seat
      { headset := i, kind := .serving, burst := r.currentBurst } r.listen)).setRec i (some r)

/-- Antennas 0, 6 and 7 of CL0 ACTIVE, DRAINING and CLOSED, antenna 1 of CL1 and 2 of CL2 ACTIVE, the others DOWN; every
transmitter is sending. -/
def world : State :=
  let up (l : LinkId) : Antenna := Antenna.up l Params.default
  (((({ State.reset with
    links := Vector.replicate 4 { Link.afterReset with tx := some { isReply := false, chars := [] }, awaitHigh := false } }
      : State).setAnt 0 (up 0)).setAnt 1 (up 1)).setAnt 2 (up 2)).setAnt 6
        { up 0 with state := .draining, queue := [3] } |>.setAnt 7 { up 0 with state := .closed }

def r0 : Record := served 5 0 0
def r1 : Record := adrift 6 .off 7
def r2 : Record := { served 7 0 1 with key := .on }
def r3 : Record := { served 8 6 0 with key := .waiting }
def r4 : Record := adrift 9 .pending 9

/-- Headset 5 is SETTLED at antenna 0, 6 is ADRIFT, 7 is keyed at antenna 0, 8 waits at the DRAINING antenna 6, 9 is ADRIFT
with its key PENDING; no handoff runs. -/
def quiet : State := sit 4 r4 (sit 3 r3 (sit 2 r2 (sit 1 r1 (sit 0 r0 world))))

def r5 : Record :=
  { served 10 0 2 with state := .handing, candidates := [cand 1 1800 3 none], handoff := some 0 }
def r6 : Record :=
  { served 11 0 3 with
    state := .handing, candidates := [cand 1 1800 3 none], serveLost := none, handoff := some 1 }

def x0 : Entry :=
  { num := 0, headset := 5, source := 0, target := 1, phase := .preparing, reserved := some (0, 0), seq := 0
    switchFrame := none, prepTimer := some Timer.start, moveTimer := none, prepareDue := true, moveDue := false }
def x1 : Entry :=
  { num := 1, headset := 6, source := 0, target := 1, phase := .moving, reserved := some (1, 0), seq := 1
    switchFrame := some 2, prepTimer := none, moveTimer := some Timer.start, prepareDue := false, moveDue := true }

/-- The seat held at antenna 1 for the headset of an entry. -/
def held (i : RosterIx) : Seat := { headset := i, kind := .reserved, burst := 200 }

/-- Headset 10 is PREPARING and headset 11 MOVING from antenna 0 to antenna 1. -/
def moving : State :=
  { (((sit 6 r6 (sit 5 r5 quiet)).modAnt 1 (Antenna.occupied Params.default 0 0 (held 5) 3)).modAnt 1
    (Antenna.occupied Params.default 1 0 (held 6) 3)) with handoffs := [x0, x1], seqCounter := 2 }

def r7 : Record :=
  { served 12 0 4 with state := .handing, candidates := [cand 1 1800 3 (some Timer.start)], handoff := some 2 }
def x2 : Entry :=
  { num := 2, headset := 7, source := 0, target := 1, phase := .queued, reserved := none, seq := 2
    switchFrame := none, prepTimer := none, moveTimer := none, prepareDue := false, moveDue := false }

/-- Headset 12 is QUEUED behind them, CL1 being at its depth. -/
def queued : State := { sit 7 r7 moving with handoffs := [x0, x1, x2], seqCounter := 3 }

/-- The state with one timer, or another part of a record, changed. -/
abbrev withRec (s : State) (i : RosterIx) (r : Record) : State := s.setRec i (some r)

/-- A timer that has still to take the last boundary. -/
def ripeAt (count : Nat) : Option Timer := some { count := count, due := true }

/-- A timer that has still to take the last boundary, its count at the highest value; SERVE_LOST and the other parameters
of one byte have 30, 50, 5 and 20. -/
def ripe : Option Timer := ripeAt 254

/-- A retain timer at the last count before RETAIN's 6000. -/
def ripeRetain : Option Timer := ripeAt 5999

/-- The state with every timer's parameter at its highest value. -/
def patient (s : State) : State :=
  { s with params := { s.params with serveLost := 255, retain := 65535, candAge := 255, prepTime := 255, moveTime := 255 } }

/-- Both handoffs' timers have run out. -/
def ripened : State :=
  { moving with handoffs := [{ x0 with prepTimer := ripe }, { x1 with moveTimer := ripe }] }

/-- Headset 11 went ADRIFT while its handoff was MOVING. -/
def lost6 : Record :=
  { r6 with state := .adrift, serving := none, retain := some Timer.start }

/-- The switch frame of headset 11's move has begun. -/
def back : State := { moving with frameNumber := 2 }

/-- The move timer has run out besides, and its row waits. -/
def late : State := { back with handoffs := [x0, { x1 with moveTimer := ripe }], pending := [.moveTimerExpiry 1] }

/-- The state with an idle transmitter on CL0. -/
def idle (s : State) : State := s.modLink 0 fun x => { x with tx := none }

/-- The state after a command. -/
def after : Host.Outcome State Fault Refusal → State
  | .next s => s
  | .fault _ => State.reset
  | .refused _ => State.reset

/-- A plan of eight full groups, each of the burst, besides the given group. -/
def fullPlan (burst : Nat) (own : Group) : Vector Group 16 :=
  Vector.ofFn fun g =>
    let seat : Seat := { headset := 100, kind := .serving, burst := burst }
    if g.val = 0 then own else if g.val ≤ 8 then { seat0 := some seat, seat1 := some seat } else Group.empty

/-- Headset 5 at an antenna whose eight other groups are keyed: beside them its own talk burst does not fit, nor a new seat. -/
def full : State :=
  let own : Group := { seat0 := some { headset := 0, kind := .serving, burst := 200 }, seat1 := none }
  { quiet.modAnt 0 (Antenna.withPlan Params.default (fullPlan 1000 own)) with
    params := { Params.default with reserve := 1000 } }

/-- A roster of 192 SETTLED headsets. -/
def crowd : State := { world with roster := Vector.replicate 192 (some r0) }

/-- The roster is full and one headset is ADRIFT. -/
def packed : State := crowd.setRec 100 (some r1)

theorem crowd_rec (j : RosterIx) : crowd.rec? j = some r0 := by
  simp [crowd, State.rec?, Vector.get]

theorem crowd_ready : Ready 0 crowd := by
  refine ⟨rfl, quiet_of_none ?_ (by decide +kernel), rfl, rfl⟩
  show dueExpiries crowd = []
  have h : recordExpiries 0 r0 = [] := rfl
  simp [dueExpiries, crowd_rec, recordExpiries, r0, served, Timer.start, timerDue, show crowd.handoffs = [] from rfl]

theorem crowd_unknown : crowd.findHeadset 1 = none := by
  simp [State.findHeadset, crowd_rec, r0, served]

/-- No key waits. -/
def unkeyed : State := sit 0 r0 (world.modAnt 6 fun x => { x with queue := [] })

/-- CL0 holds a reply, with some requests waiting. -/
def waiting (n : Nat) : State :=
  quiet.modLink 0 fun x => { x with reply := some [0x9A], slots := List.replicate n (Request.make 1 .queryClock) }

/-- CL0's assembler in a state. -/
def assembling (a : Assembler) : State := quiet.modLink 0 fun x => { x with asm := a }

/-- Headset 7 waits at antenna 0. -/
def busy : State := quiet.modAnt 0 fun x => { x with queue := [2] }

/-- An antenna with a seat of its plan changed. -/
def reseat (a : AntennaId) (g : GroupIx) (seat : Seat) (s : State) : State :=
  s.modAnt a fun x => x.withPlan s.params (putSeat x.plan g 0 (some seat))

/-- A reserved seat at the talk burst for the headset of an entry. -/
def heldTalk (i : RosterIx) : Seat := { held i with burst := 500 }

/-- No seat fits at an antenna any more. -/
def stuffed (a : AntennaId) (s : State) : State := s.modAnt a fun x => { x with airtime := 9500 }

/-- No plan is due. -/
def ended : State := { quiet with antennas := quiet.antennas.map fun x => { x with planDue := false } }

theorem quiet_due : NoExpiryDue quiet := by decide +kernel
theorem quiet_ready : ∀ l, Ready l quiet := by decide +kernel
/-- A change of the links and antennas leaves what is due to expire. -/
theorem still {s : State} (ht : TransmittersSettled s) (hr : s.roster = quiet.roster := by rfl)
    (hh : s.handoffs = [] := by rfl) : Quiet s := by
  refine quiet_of_none ?_ ht
  have h : dueExpiries quiet = [] := quiet_due
  show dueExpiries s = []
  rw [← h]
  unfold dueExpiries State.rec?
  rw [hr, hh]
  rfl

theorem full_ready : Ready 0 full := ⟨rfl, still (by decide +kernel), by decide +kernel⟩
theorem moving_ready : ∀ l, Ready l moving := by decide +kernel
theorem queued_ready : ∀ l, Ready l queued := by decide +kernel

/-! ## Well-formedness: an ill-formed command for each check -/

/-- A LEVELS body of 50 pairs does not fit 200 bytes (R146). -/
theorem test_levels_too_long : (Instr.levels 0 0 0 (List.replicate 50 (5, 40))).wellFormed = false ∧
    (Instr.levels 0 0 0 (List.replicate 49 (5, 40))).wellFormed = true := by decide

/-- Parameters 11 to 14 are other rows' (R175). -/
theorem test_set_other_rows : (∀ p ∈ [(11 : Byte), 12, 13, 14], (Instr.set 0 0 p 0).wellFormed = false) ∧
    (Instr.set 0 0 10 0).wellFormed = true ∧ (Instr.set 0 0 15 0).wellFormed = true := by decide

theorem test_known_kind_is_not_unknown : (∀ k ∈ requestKinds, (Instr.unknownKind 0 k 0).wellFormed = false) ∧
    (Instr.unknownKind 0 0x88 0).wellFormed = true := by decide

theorem test_good_length_is_not_malformed : (Instr.malformed 0 2).wellFormed = false ∧
    (Instr.malformed 0 200).wellFormed = false ∧ (Instr.malformed 0 1).wellFormed = true ∧
    (Instr.malformed 0 201).wellFormed = true := by decide

/-! ## Results that the manual gives -/

/-- Section 10.8: the 13 characters of an ATTACH request. -/
theorem test_attach_characters :
    frameMessage (Request.make 0x21 (.attach 700015 9 2 0x0011 120)).body =
      [0xC3, 0x0A, 0x08, 0x21, 0x0A, 0xAE, 0x6F, 0x09, 0x02, 0x00, 0x11, 0x78, 0x12] := by decide +kernel

/-- Section 8.8: T = 31, the boundaries 2 to 4. -/
theorem test_accumulator :
    let s := advanceClock { State.reset with trim := 31, acc := 4960000 }
    s.frameLength = 159999 ∧ s.acc = 1531392 ∧ (advanceClock s).acc = 6491392 ∧
      (advanceClock (advanceClock s)).acc = 3062784 := by decide +kernel

/-- Section 3.4: the plan of antenna 17 before the ATTACH of H5. -/
def plan17 : Vector Group 16 :=
  let seat (i : RosterIx) (b : Nat) : Option Seat := some { headset := i, kind := .serving, burst := b }
  Vector.ofFn fun g =>
    if g.val = 0 then { seat0 := seat 1 300, seat1 := seat 2 200 }
    else if g.val = 1 then { seat0 := seat 3 1000, seat1 := none }
    else if g.val = 2 then { seat0 := seat 4 250, seat1 := none } else Group.empty

/-- Section 3.4: 2070 microseconds, and profile 4 joins group 1 at seat 1. -/
theorem test_placement : airtimeOf Params.default plan17 = 2070 ∧
    choosePlacement plan17 40 350 = some { group := 1, seat := 1, increase := 0 } := by decide +kernel

/-- Section 10.4: the plan's group records, with the flags the manual lists. -/
theorem test_plan_flags :
    let r (i : HeadsetId) (p : Profile) : Option Record := some { served i 17 0 with profile := p }
    let s := (((((State.reset.setRec 1 (r 1 .p3)).setRec 2 (r 2 .p1)).setRec 3 (r 3 .p5)).setRec 4 (r 4 .p2)).setRec 5
      (r 5 .p4))
    let plan := putSeat plan17 1 1 (some { headset := 5, kind := .serving, burst := 350 })
    groupRecord s plan 0 = some [0, 2, 0, 0, 1, 0x03, 0, 0, 2, 0x11] ∧
      groupRecord s plan 1 = some [1, 2, 0, 0, 3, 0x45, 0, 0, 5, 0x14] ∧
      groupRecord s plan 2 = some [2, 1, 0, 0, 4, 0x02] ∧ groupRecord s plan 3 = none := by decide +kernel

/-- Section 5.7, event 2: a seed of 1312 takes its place behind 1504. -/
theorem test_candidate_order :
    (placeCandidate (cand 12 1312 0 none) [cand 7 1704 2 none, cand 9 1504 1 none]).map Candidate.antenna =
      [7, 9, 12] := by decide +kernel

/-- R121: the switch frame S has begun at S, at S + 1 and across the wrap, not at S − 1 or S − 2. -/
theorem test_switch_begun : switchBegun 2 2 = true ∧ switchBegun 3 2 = true ∧ switchBegun 0 65535 = true ∧
    switchBegun 1 2 = false ∧ switchBegun 0 2 = false := by decide

/-- R123: a report that the queue puts before the expiry of the same boundary is taken while MOVING, one level short of a
bounce-back and at it; one that it does not is taken after it. -/
theorem test_report_before_the_expiry :
    let state := fun (s : State) (level : Byte) =>
      ((after (exec (.levels 0 9 0 [(11, level)]) s)).rec? 6).map Record.state
    state late 39 = some .handing ∧ state late 40 = some .settled ∧
      state { late with pending := [] } 39 = some .settled := by decide +kernel

/-- R140, R167: while the boundary that brings a serve-lost timer of 255 and a retain timer of 65535 to their parameters has
still to be taken by them, QUERY HEADSET shows 254 and 65534, not the code of an absent count. -/
theorem test_query_before_the_expiry :
    let s := withRec (withRec (patient quiet) 0 { r0 with serveLost := some { count := 254, due := false } }) 1
      { r1 with retain := some { count := 65534, due := false } }
    let t := after (exec .frameBoundary { s with pending := [.serveLostExpiry 0, .retainExpiry 1] })
    ((headsetFields t 0 ((t.rec? 0).getD r0)).drop 13).take 1 = [254] ∧
      ((headsetFields t 1 ((t.rec? 1).getD r1)).drop 14).take 2 = [0xFF, 0xFE] ∧
      ((after (exec (.serveLostExpiry 0) t)).rec? 0).map Record.state = some .adrift ∧
      (after (exec (.retainExpiry 1) t)).rec? 1 = none := by decide +kernel

/-- R160: a kind byte of 0x88 names no request. -/
theorem test_reply_kind_is_unknown : Request.ofBody [0x88, 0x21] = { kind := 0x88, tag := 0x21, ask := .unknown } := by
  decide

/-- R160: an ATTACH body of 9 bytes is of the wrong length. -/
theorem test_short_attach :
    (Request.ofBody [0x08, 0x21, 0x0A, 0xAE, 0x6F, 0x09, 0x02, 0x00, 0x11]).ask = .badLength := by decide

/-- ANT_UP in front of the queue runs as the first command after reset: the antenna is ACTIVE under CL2, its airtime
BEACON, and the reply's byte 6 is 0x40 + 17 (R25, R164). -/
theorem test_ant_up_from_reset :
    let s := after (step { State.reset with pending := [.antUp 2 9 17] })
    (s.ant 17).state = .active ∧ s.owner 17 = some 2 ∧ (s.ant 17).airtime = 400 ∧ s.pending = [] ∧
      (s.link 2).reply = some [0x81, 9, 0, 0, 0, 0, 0x51] := by decide +kernel

/-! ## The hypotheses of the statements, met together -/

theorem witness_StepRunsTheFrontCommand :
    ({ State.reset with pending := [.fsyncPulseEnd] } : State).pending = .fsyncPulseEnd :: [] ∧
      State.reset.pending = [] := by decide +kernel

theorem witness_HeldResetAndItsRelease :
    ({ State.reset with resetHeld := true } : State).resetHeld = true ∧ (Instr.fsyncPulseEnd ≠ .reset) ∧
      (3 : LinkId).val = (3 : BitVec 2).toNat ∧ State.reset.resetHeld = false := by decide +kernel

/-- The two ends of k: T = −2048 with A = 0, and T = 2047 with A = 2^23 − 1. -/
theorem witness_FrameBoundaryAdvancesTheTimebase :
    let s : State := { quiet with trim := -2048, acc := 0 }
    let t : State := { quiet with trim := 2047, acc := 8388607 }
    (s.resetHeld = false ∧ NoExpiryDue s ∧ TransmittersSettled s ∧ (-40 : Int) * 8388608 ≤ s.acc + s.trim * 160000 ∧
      s.acc + s.trim * 160000 < (-40 + 1) * 8388608) ∧
    (t.resetHeld = false ∧ NoExpiryDue t ∧ TransmittersSettled t ∧ (40 : Int) * 8388608 ≤ t.acc + t.trim * 160000 ∧
      t.acc + t.trim * 160000 < (40 + 1) * 8388608) := by decide +kernel

/-- The expiries: of a SETTLED headset with nothing waiting and with another's key waiting, of the only WAITING one and of a
HANDING one; of an ADRIFT one
without and with an entry; of an ordinary candidate entry, and of one that a QUEUED handoff names; the first of each kind
once more with its parameter raised. -/
theorem witness_ExpiriesTakeTheirEffect :
    let s := withRec quiet 0 { r0 with serveLost := ripe }
    let t := withRec quiet 3 { r3 with serveLost := ripe }
    let h := withRec moving 5 { r5 with serveLost := ripe }
    let u := withRec quiet 1 { r1 with retain := ripeRetain }
    let a := withRec moving 6 { lost6 with retain := ripeRetain }
    let c := cand 1 1800 3 ripe
    let w := withRec quiet 0 { r0 with candidates := [c] }
    let z := withRec queued 7 { r7 with candidates := [c] }
    (s.resetHeld = false ∧ TransmittersSettled s ∧ s.rec? 0 = some { r0 with serveLost := ripe } ∧
      ripe = some { count := 254, due := true } ∧ s.params.serveLost ≤ 254 + 1 ∧ r0.handoff = none ∧ r0.serving = some { antenna := 0, group := 0, seat := 0 } ∧
      (s.ant 0).queue = []) ∧
    (TransmittersSettled t ∧ t.rec? 3 = some { r3 with serveLost := ripe } ∧ r3.key = .waiting ∧
      r3.serving = some { antenna := 6, group := 0, seat := 0 } ∧ (t.ant 6).queue.filter (fun j => j != 3) = []) ∧
    (TransmittersSettled (withRec busy 0 { r0 with serveLost := ripe }) ∧
      ((withRec busy 0 { r0 with serveLost := ripe }).ant 0).queue ≠ []) ∧
    (TransmittersSettled h ∧ h.rec? 5 = some { r5 with serveLost := ripe } ∧ h.entryOf? r5 = some x0 ∧ x0.headset = 5 ∧
      ((h.torn x0 false).rec? 5).bind Record.serving = some { antenna := 0, group := 2, seat := 0 }) ∧
    (TransmittersSettled u ∧ u.rec? 1 = some { r1 with retain := ripeRetain } ∧ ripeRetain = some { count := 5999, due := true } ∧
      u.params.retain ≤ 5999 + 1 ∧ r1.handoff = none) ∧
    (TransmittersSettled a ∧ a.rec? 6 = some { lost6 with retain := ripeRetain } ∧ a.entryOf? lost6 = some x1 ∧
      x1.headset = 6) ∧
    (TransmittersSettled w ∧ w.rec? 0 = some { r0 with candidates := [c] } ∧ c.age = ripe ∧ w.params.candAge ≤ 254 + 1 ∧
      w.entryOf? { r0 with candidates := [c] } = none) ∧
    (TransmittersSettled z ∧ z.rec? 7 = some { r7 with candidates := [c] } ∧ z.entry? x2.num = some x2 ∧
      r7.handoff = some x2.num ∧ x2.headset = 7 ∧ x2.phase = .queued ∧ x2.target = c.antenna) ∧
    (let e : Option Timer := ripeAt 253
     let y := withRec (patient quiet) 0 { r0 with serveLost := e, candidates := [{ c with age := e }] }
     let n := withRec (patient quiet) 1 { r1 with retain := ripeRetain }
     y.resetHeld = false ∧ TransmittersSettled y ∧ 253 + 1 < y.params.serveLost ∧ 253 + 1 < y.params.candAge ∧
       y.rec? 0 = some { r0 with serveLost := e, candidates := [{ c with age := e }] } ∧ TransmittersSettled n ∧
       n.rec? 1 = some { r1 with retain := ripeRetain } ∧ 5999 + 1 < n.params.retain) := by
  refine ⟨?_, ?_, ?_, ?_, ?_, ?_, ?_, ?_, ?_⟩ <;> decide +kernel

/-- An abort of a PREPARING and of a MOVING entry, by request and by expiry; and a raised PREP_TIME and MOVE_TIME. -/
theorem witness_AbortsReturnTheHeadset :
    let p := { x0 with prepTimer := ripe }
    let m := { x1 with moveTimer := ripe }
    (moving.entry? x0.num = some x0 ∧ moving.rec? x0.headset = some r5 ∧ r5.handoff = some x0.num ∧ Ready 1 moving ∧
      validHeadset 10 = true ∧ moving.findHeadset 10 = some x0.headset ∧ x0.phase = .preparing ∧
      moving.owner x0.target = some 1) ∧
    (moving.entry? x1.num = some x1 ∧ moving.rec? x1.headset = some r6 ∧ r6.handoff = some x1.num ∧ Ready 0 moving ∧
      validHeadset 11 = true ∧ moving.findHeadset 11 = some x1.headset ∧ x1.phase = .moving ∧ r6.state = .handing ∧
      r6.serving = some { antenna := 0, group := 3, seat := 0 } ∧ moving.owner 0 = some 0) ∧
    (ripened.resetHeld = false ∧ TransmittersSettled ripened ∧ ripened.entry? p.num = some p ∧
      ripened.rec? p.headset = some r5 ∧ p.phase = .preparing ∧
      p.prepTimer = some { count := 254, due := true } ∧ ripened.params.prepTime ≤ 254 + 1 ∧
      ripened.entry? m.num = some m ∧ ripened.rec? m.headset = some r6 ∧ m.phase = .moving ∧
      m.moveTimer = some { count := 254, due := true } ∧ ripened.params.moveTime ≤ 254 + 1) ∧
    (let e : State := patient { ripened with
        handoffs := [{ x0 with prepTimer := ripeAt 253 }, { x1 with moveTimer := ripeAt 253 }] }
     e.resetHeld = false ∧ TransmittersSettled e ∧ e.entry? 0 = some { x0 with prepTimer := ripeAt 253 } ∧
       e.entry? 1 = some { x1 with moveTimer := ripeAt 253 } ∧ (e.handoffs.map Entry.num).Nodup ∧
       253 + 1 < e.params.prepTime ∧ 253 + 1 < e.params.moveTime) ∧
    (x0.phase ≠ .queued ∧ x1.phase ≠ .queued ∧ x0.reserved = some (0, 0) ∧ x1.reserved = some (1, 0) ∧
      r5.serving = some { antenna := 0, group := 2, seat := 0 } ∧ (0 : AntennaId) ≠ x0.target ∧
      (moving.ant x0.target).queue = []) := by
  refine ⟨⟨?_, ?_, ?_, moving_ready 1, ?_⟩, ⟨?_, ?_, ?_, moving_ready 0, ?_⟩, ?_⟩ <;> decide +kernel

theorem witness_ReadyMovesTheEntry :
    Ready 1 moving ∧ validHeadset 10 = true ∧ moving.findHeadset 10 = some 5 ∧ moving.rec? 5 = some r5 ∧
      r5.handoff = some x0.num ∧ moving.entry? x0.num = some x0 ∧ x0.headset = 5 ∧ x0.phase = .preparing ∧
      moving.owner x0.target = some 1 := ⟨moving_ready 1, by decide +kernel⟩

/-- A MOVING headset that holds its serving seat, one whose key is PENDING, and one that went ADRIFT; and one whose reserved
seat carries the talk burst under a PENDING key, with a key waiting at the source and an entry QUEUED for the link. -/
theorem witness_HandoffsComplete :
    let a := withRec moving 6 lost6
    let k := withRec moving 6 { r6 with key := .pending }
    (Ready 1 moving ∧ validHeadset 11 = true ∧ moving.findHeadset 11 = some 6 ∧ moving.rec? 6 = some r6 ∧
      r6.handoff = some x1.num ∧ moving.entry? x1.num = some x1 ∧ x1.headset = 6 ∧ x1.phase = .moving ∧
      x1.reserved = some (1, 0) ∧ moving.owner x1.target = some 1 ∧
      ((moving.ant x1.target).plan.get 1).seat 0 = some (held 6) ∧ (held 6).burst ≠ r6.profile.talkBurst ∧
      r6.candidates.find? (fun d => d.antenna == x1.target) = some (cand 1 1800 3 none) ∧
      (∀ y ∈ moving.handoffs, y.phase = .queued → moving.owner y.target ≠ some 1) ∧
      r6.serving = some { antenna := 0, group := 3, seat := 0 } ∧ (0 : AntennaId) ≠ x1.target ∧
      (moving.ant 0).queue = []) ∧
    (Ready 1 k ∧ k.findHeadset 11 = some 6 ∧ k.rec? 6 = some { r6 with key := .pending }) ∧
    (Ready 1 a ∧ a.findHeadset 11 = some 6 ∧ a.rec? 6 = some lost6 ∧ lost6.handoff = some x1.num ∧
      lost6.serving = none ∧ a.entry? x1.num = some x1 ∧ a.owner x1.target = some 1 ∧
      ((a.ant x1.target).plan.get 1).seat 0 = some (held 6)) ∧
    (let z := withRec (reseat 1 1 (heldTalk 6) (queued.modAnt 0 fun x => { x with queue := [2] })) 6
       { r6 with key := .pending }
     Ready 1 z ∧ z.findHeadset 11 = some 6 ∧ z.rec? 6 = some { r6 with key := .pending } ∧ z.entry? x1.num = some x1 ∧
       z.owner x1.target = some 1 ∧ z.keyedSeat 1 1 0 .p1 = true ∧ (z.ant 0).queue ≠ [] ∧
       (∃ y ∈ z.handoffs, y.phase = .queued ∧ z.owner y.target = some 1)) := by
  refine ⟨⟨moving_ready 1, ?_⟩, ?_, ?_, ?_⟩ <;> decide +kernel

/-- Each refusal of the headset requests: 0, the highest ID and an antenna of 64; an unknown headset; an entry of another
link's, of another phase, and none; the target and the serving antenna from their owner and from another link; an ADRIFT
headset. -/
theorem witness_HeadsetRequestsAreChecked :
    Ready 0 moving ∧ Ready 3 moving ∧ validHeadset 0 = false ∧ validHeadset 0xFFFFFF = false ∧
      63 < (64 : Byte).toNat ∧ (63 : Byte).toNat ≤ 63 ∧ validHeadset 1 = true ∧ validHeadset 0xFFFFFE = true ∧
      moving.findHeadset 1 = none ∧
      validHeadset 5 = true ∧ moving.findHeadset 5 = some 0 ∧ moving.rec? 0 = some r0 ∧ moving.entryOf? r0 = none ∧
      r0.serving = some { antenna := 0, group := 0, seat := 0 } ∧ r0.state ≠ .adrift ∧ moving.owner 0 ≠ some 3 ∧
      moving.findHeadset 10 = some 5 ∧ moving.rec? 5 = some r5 ∧ moving.entryOf? r5 = some x0 ∧
      moving.owner x0.target ≠ some 0 ∧ moving.findHeadset 11 = some 6 ∧
      moving.rec? 6 = some r6 ∧ moving.entryOf? r6 = some x1 ∧ x1.phase = .moving ∧ moving.owner x1.target ≠ some 0 ∧
      r6.state = .handing ∧ r6.serving = some { antenna := 0, group := 3, seat := 0 } ∧
      moving.findHeadset 6 = some 1 ∧ moving.rec? 1 = some r1 ∧ r1.state = .adrift :=
  ⟨moving_ready 0, moving_ready 3, by decide +kernel⟩

/-- Serving reports of a SETTLED headset, of one served at a DRAINING antenna, of a PREPARING and of a MOVING one; and a
bounce-back in the switch frame's first frame at exactly LOSS_LEVEL, also where the move timer has run out and its row
waits. -/
theorem witness_ServingReportsAreApplied :
    let bounce := fun (s : State) (x : Entry) => ∃ switch, x.switchFrame = some switch ∧
      2 ≤ (s.frameNumber - switch + 2).toNat ∧ s.params.lossLevel ≤ (40 : Byte).toNat
    let m := { x1 with moveTimer := ripe }
    (Ready 0 quiet ∧ validHeadset 5 = true ∧ quiet.findHeadset 5 = some 0 ∧ quiet.rec? 0 = some r0 ∧ r0.state ≠ .adrift ∧
      r0.serving = some { antenna := 0, group := 0, seat := 0 } ∧ quiet.owner 0 = some 0 ∧ quiet.entryOf? r0 = none ∧
      quiet.findHeadset 8 = some 3 ∧ quiet.rec? 3 = some r3 ∧ (quiet.ant 6).state = .draining ∧
      quiet.owner 6 = some 0) ∧
    (Ready 0 moving ∧ moving.findHeadset 10 = some 5 ∧ moving.rec? 5 = some r5 ∧ moving.entryOf? r5 = some x0 ∧
      moving.findHeadset 11 = some 6 ∧ moving.rec? 6 = some r6 ∧ moving.entryOf? r6 = some x1 ∧ ¬ bounce moving x1) ∧
    (Ready 0 back ∧ validHeadset 11 = true ∧ back.findHeadset 11 = some 6 ∧ back.rec? 6 = some r6 ∧
      r6.state = .handing ∧ r6.handoff = some x1.num ∧ back.entry? x1.num = some x1 ∧ x1.headset = 6 ∧
      x1.phase = .moving ∧ x1.reserved = some (1, 0) ∧ bounce back x1 ∧
      r6.serving = some { antenna := 0, group := 3, seat := 0 } ∧ (0 : AntennaId) ≠ x1.target ∧
      (back.ant x1.target).queue = [] ∧
      (∀ y ∈ back.handoffs, y.phase = .queued → back.owner y.target ≠ back.owner x1.target)) ∧
    (Ready 0 late ∧ dueExpiries late = [.move 1] ∧ late.entry? m.num = some m ∧ bounce late m) := by
  refine ⟨⟨quiet_ready 0, by decide +kernel⟩, ⟨moving_ready 0, ?_⟩, ⟨by decide +kernel, ?_⟩, by decide +kernel, ?_⟩
  · rw [← and_assoc, ← and_assoc, ← and_assoc, ← and_assoc, ← and_assoc]
    refine ⟨by decide +kernel, ?_⟩
    rintro ⟨f, hf, h, -⟩
    cases (show some 2 = some f from hf)
    exact absurd h (by decide +kernel)
  · exact ⟨by decide +kernel, by decide +kernel, by decide +kernel, rfl, rfl, by decide +kernel, rfl, rfl, rfl,
      ⟨2, rfl, by decide +kernel⟩, by decide +kernel⟩
  · exact ⟨by decide +kernel, by decide +kernel, 2, rfl, by decide +kernel⟩

def far : List Candidate := [cand 8 1800 3 none, cand 9 1700 3 none]
def q0 : Record := { r0 with candidates := far ++ [cand 1 1600 3 none] }
def q5 : Record := { r5 with candidates := [cand 8 1900 3 none, cand 9 1808 3 none, cand 1 1800 3 none] }
def q7 : Record := { r7 with candidates := far ++ [cand 1 1600 3 none] }

/-- A new entry, also of an ADRIFT headset below LOSS_LEVEL; an entry in the list; a full list at a seed equal to the last
entry's level and one level above it, also where the last is the target candidate; and the removal of a QUEUED handoff
with its target's entry. -/
theorem witness_CandidateReportsInsertAnEntry :
    let s := withRec quiet 0 q0
    let h := withRec moving 5 q5
    let w := withRec queued 7 q7
    (Ready 1 quiet ∧ validHeadset 5 = true ∧ quiet.findHeadset 5 = some 0 ∧ quiet.rec? 0 = some r0 ∧
      quiet.owner 1 = some 1 ∧ (quiet.ant 1).state = .active ∧ r0.serving = some { antenna := 0, group := 0, seat := 0 } ∧
      (0 : AntennaId) ≠ 1 ∧ quiet.heldTarget r0 ≠ some 1 ∧ r0.state ≠ .adrift ∧ (∀ c ∈ r0.candidates, c.antenna ≠ 1) ∧
      r0.candidates.length < 3) ∧
    (quiet.findHeadset 6 = some 1 ∧ quiet.rec? 1 = some r1 ∧ r1.serving = none ∧ quiet.heldTarget r1 ≠ some 1 ∧
      (39 : Byte).toNat < quiet.params.lossLevel ∧ r1.candidates.length < 3) ∧
    (Ready 1 s ∧ s.findHeadset 5 = some 0 ∧ s.rec? 0 = some q0 ∧
      q0.candidates.find? (fun d => d.antenna == 1) = some (cand 1 1600 3 none)) ∧
    (Ready 2 s ∧ s.owner 2 = some 2 ∧ (s.ant 2).state = .active ∧ (∀ c ∈ q0.candidates, c.antenna ≠ 2) ∧
      3 ≤ q0.candidates.length ∧ q0.candidates = far ++ cand 1 1600 3 none :: [] ∧ s.heldTarget q0 ≠ some 1 ∧
      (100 : Byte).toNat * 16 ≤ 1600 ∧ 1600 < (101 : Byte).toNat * 16 ∧ s.entryOf? q0 = none) ∧
    (Ready 2 h ∧ h.findHeadset 10 = some 5 ∧ h.rec? 5 = some q5 ∧ (∀ c ∈ q5.candidates, c.antenna ≠ 2) ∧
      q5.candidates = [cand 8 1900 3 none] ++ cand 9 1808 3 none :: [cand 1 1800 3 none] ∧
      h.heldTarget q5 ≠ some 9 ∧ h.heldTarget q5 = some 1 ∧ h.heldTarget q5 ≠ some 2 ∧ 1808 < (114 : Byte).toNat * 16 ∧
      h.entryOf? q5 = some x0 ∧ x0.phase ≠ .queued) ∧
    (Ready 2 w ∧ validHeadset 12 = true ∧ w.findHeadset 12 = some 7 ∧ w.rec? 7 = some q7 ∧ w.owner 2 = some 2 ∧
      (w.ant 2).state = .active ∧ w.heldTarget q7 = none ∧ (∀ c ∈ q7.candidates, c.antenna ≠ 2) ∧
      q7.candidates = far ++ cand 1 1600 3 none :: [] ∧ q7.state = .handing ∧ q7.handoff = some x2.num ∧
      w.entry? x2.num = some x2 ∧ x2.headset = 7 ∧ x2.phase = .queued ∧ x2.target = 1) := by
  refine ⟨⟨quiet_ready 1, ?_⟩, ?_, ?_, ?_, ?_, ?_⟩ <;> decide +kernel

/-- At exactly LOSS_LEVEL: a key that is OFF, and a PENDING one that is granted, that waits, and that finds the queue
full. -/
theorem witness_ReadmissionSeatsTheHeadset :
    let p : Placement := { group := 0, seat := 0, increase := 240 }
    let seated := fun (s : State) (a : AntennaId) (p : Placement) =>
      (s.modAnt a (Antenna.occupied s.params p.group p.seat { headset := 4, kind := .serving, burst := 200 } 3)).setRec 4
        (some { r4 with
          state := .settled, serving := some { antenna := a, group := p.group, seat := p.seat }, f16s := 640, weak := false
          candidates := [], serveLost := some { count := 0, due := false }, retain := none })
    let four := full.modAnt 0 fun x => { x with queue := [8, 9, 10, 11] }
    (Ready 1 quiet ∧ validHeadset 6 = true ∧ quiet.findHeadset 6 = some 1 ∧ quiet.rec? 1 = some r1 ∧
      r1.state = .adrift ∧ r1.handoff = none ∧ quiet.owner 1 = some 1 ∧ (quiet.ant 1).state = .active ∧
      quiet.params.lossLevel ≤ (40 : Byte).toNat ∧ place? quiet 1 r1.profile.listenBurst = some p ∧ r1.key ≠ .pending) ∧
    (validHeadset 9 = true ∧ quiet.findHeadset 9 = some 4 ∧ quiet.rec? 4 = some r4 ∧ r4.state = .adrift ∧
      r4.handoff = none ∧ place? quiet 1 r4.profile.listenBurst = some p ∧ r4.key = .pending ∧
      (rePlace? (seated quiet 1 p) 4).isSome = true) ∧
    (Ready 0 full ∧ full.findHeadset 9 = some 4 ∧ full.rec? 4 = some r4 ∧ full.owner 0 = some 0 ∧
      (full.ant 0).state = .active ∧
      place? full 0 r4.profile.listenBurst = some { group := 0, seat := 1, increase := 0 } ∧
      rePlace? (seated full 0 { group := 0, seat := 1, increase := 0 }) 4 = none ∧
      ((seated full 0 { group := 0, seat := 1, increase := 0 }).ant 0).queue.length < 4) ∧
    (Ready 0 four ∧ four.rec? 4 = some r4 ∧ four.findHeadset 9 = some 4 ∧
      place? four 0 r4.profile.listenBurst = some { group := 0, seat := 1, increase := 0 } ∧
      rePlace? (seated four 0 { group := 0, seat := 1, increase := 0 }) 4 = none ∧
      4 ≤ ((seated four 0 { group := 0, seat := 1, increase := 0 }).ant 0).queue.length) := by
  refine ⟨⟨quiet_ready 1, ?_⟩, ?_, ⟨full_ready, ?_⟩, ⟨rfl, still (by decide +kernel), ?_⟩, ?_⟩ <;> decide +kernel

/-- One pair for each row of the table; three pairs of one request; pairs of rows 1, 3 and 5 alone. -/
theorem witness_PairsAreClassified :
    (Ready 1 moving ∧ moving.owner 1 = some 1 ∧ ([(10, 0), (5, 90), (11, 40)] : List (HeadsetId × Byte)) ≠ [] ∧
      (([(10, 0), (5, 90), (11, 40)] : List (HeadsetId × Byte)).all fun p => validHeadset p.1) = true) ∧
    (Ready 0 moving ∧ moving.owner 6 = some 0 ∧ validHeadset 1 = true ∧ moving.findHeadset 10 = some 5 ∧
      moving.rec? 5 = some r5 ∧ (r5.serving.map Serving.antenna) ≠ some 1 ∧ moving.findHeadset 5 = some 0 ∧
      moving.rec? 0 = some r0 ∧ (r0.serving.map Serving.antenna) ≠ some 6) ∧
    moving.findHeadset 1 = none ∧ (r0.state ≠ .adrift ∧ (r0.serving.map Serving.antenna) = some 0) ∧
      (moving.entryOf? r5 = some x0 ∧ x0.target = 1 ∧ x0.phase = .preparing) ∧
      (moving.entryOf? r6 = some x1 ∧ x1.target = 1 ∧ x1.phase = .moving) ∧
      (moving.ant 6).state = .draining ∧ (moving.ant 7).state = .closed ∧ (moving.ant 1).state = .active ∧
      (r0.serving.map Serving.antenna) ≠ some 1 ∧ moving.entryOf? r0 = none ∧
      r1.state = .adrift ∧ moving.entryOf? r1 = none ∧ moving.params.lossLevel ≤ (40 : Byte).toNat ∧
      (39 : Byte).toNat < moving.params.lossLevel ∧ moving.entryOf? { r6 with state := .adrift } ≠ none :=
  ⟨⟨moving_ready 1, by decide +kernel⟩, ⟨moving_ready 0, by decide +kernel⟩, by decide +kernel⟩

theorem witness_AttachSeatsANewHeadset :
    Ready 0 quiet ∧ validHeadset 1 = true ∧ quiet.findHeadset 1 = none ∧ quiet.owner 0 = some 0 ∧
      (quiet.ant 0).state = .active ∧ classOf? 15 = some (some .p3, .p3) ∧ classOf? 0 = some (none, .p3) ∧
      (0 : Byte).toNat = 0 ∧ (1 : Byte).toNat = 1 ∧ (5 : Byte).toNat = 5 ∧ 6 ≤ (6 : Byte).toNat ∧
      (15 : Byte).toNat ≤ 15 ∧ 15 < (16 : Byte).toNat ∧ quiet.rec? 5 = none ∧ (∀ j, j < 5 → quiet.rec? j ≠ none) ∧
      place? quiet 0 Profile.p3.listenBurst = some { group := 1, seat := 1, increase := 0 } :=
  ⟨quiet_ready 0, by decide +kernel⟩

/-- A full roster in which one headset is ADRIFT. -/
theorem witness_AttachSeatsANewHeadset_evicts :
    Ready 0 packed ∧ validHeadset 1 = true ∧ packed.findHeadset 1 = none ∧ packed.owner 0 = some 0 ∧
      (packed.ant 0).state = .active ∧ (∀ j, packed.rec? j ≠ none) ∧ victim? packed = some 100 ∧
      packed.rec? 100 = some r1 ∧ r1.handoff = none ∧
      place? packed 0 Profile.p3.listenBurst = some { group := 0, seat := 0, increase := 340 } :=
  ⟨by decide +kernel, by decide +kernel⟩

/-- A full roster whose one ADRIFT headset holds the entry of an abandoned move: seated elsewhere, and at its target. -/
theorem witness_AttachSeatsANewHeadset_evicts_moving :
    let s : State := { (crowd.modAnt 1 (Antenna.occupied Params.default 1 0 (held 6) 3)).setRec 6 (some lost6) with
      handoffs := [x1] }
    let freed : State := { s.modAnt 1 fun y =>
        { y.withPlan s.params (putSeat y.plan 1 0 none) with carriage := lowerCarriage y.carriage 3 } with handoffs := [] }
    (Ready 0 s ∧ Ready 1 s ∧ s.findHeadset 1 = none ∧ (∀ j, s.rec? j ≠ none) ∧ victim? s = some 6 ∧
      s.rec? 6 = some lost6 ∧ s.entryOf? lost6 = some x1 ∧ x1.headset = 6) ∧
    (s.owner 0 = some 0 ∧ (s.ant 0).state = .active ∧ place? s 0 Profile.p3.listenBurst ≠ none ∧
      s.heldTarget lost6 ≠ some 0 ∧
      place? (s.torn x1 false) 0 Profile.p3.listenBurst = some { group := 0, seat := 0, increase := 340 }) ∧
    (s.owner 1 = some 1 ∧ (s.ant 1).state = .active ∧ place? s 1 Profile.p3.listenBurst ≠ none ∧
      s.heldTarget lost6 = some 1 ∧ x1.reserved = some (1, 0) ∧ s.handoffs.filter (fun y => y.num != x1.num) = [] ∧
      place? freed 1 Profile.p3.listenBurst = some { group := 0, seat := 0, increase := 340 }) := by
  refine ⟨?_, ?_, ?_⟩ <;> decide +kernel

/-- Without an entry, the frame with room and without; with the entry of an abandoned move, likewise. -/
theorem witness_AttachReseatsAnAdriftHeadset :
    let a := withRec moving 6 lost6
    let b : State := { a with params := { Params.default with reserve := 2000, beacon := 1000 } }
    let c : State := { b with antennas := b.antennas.map fun x => { x with airtime := 8000 } }
    (Ready 0 quiet ∧ validHeadset 6 = true ∧ quiet.findHeadset 6 = some 1 ∧ quiet.rec? 1 = some r1 ∧
      r1.state = .adrift ∧ quiet.owner 0 = some 0 ∧ (quiet.ant 0).state = .active ∧
      classOf? 5 = some (some .p5, .p5) ∧ r1.handoff = none ∧
      place? quiet 0 Profile.p5.listenBurst = some { group := 1, seat := 1, increase := 0 } ∧ Ready 0 full ∧
      full.findHeadset 6 = some 1 ∧ full.rec? 1 = some r1 ∧ place? full 0 Profile.p5.listenBurst = none) ∧
    (Ready 0 a ∧ validHeadset 11 = true ∧ a.findHeadset 11 = some 6 ∧ a.rec? 6 = some lost6 ∧ lost6.state = .adrift ∧
      a.owner 0 = some 0 ∧ (a.ant 0).state = .active ∧ a.entryOf? lost6 = some x1 ∧ x1.headset = 6 ∧
      place? (a.torn x1 false) 0 Profile.p5.listenBurst = some { group := 1, seat := 1, increase := 0 }) ∧
    (Ready 0 c ∧ c.findHeadset 11 = some 6 ∧ c.rec? 6 = some lost6 ∧ c.entryOf? lost6 = some x1 ∧
      (c.ant 0).state = .active ∧ c.owner 0 = some 0 ∧
      place? (c.torn x1 false) 0 Profile.p2.talkBurst = none) := by
  refine ⟨⟨quiet_ready 0, ?_, ?_, ?_, ?_, ?_, ?_, ?_, ?_, ?_, full_ready, ?_⟩, ?_, ?_⟩ <;> decide +kernel

/-- Each answer of ATTACH but the seat: ill fields at their bounds; another link's antenna; a seated headset, here and
elsewhere; an antenna that is not ACTIVE; a full roster; a full frame. -/
theorem witness_AttachIsChecked :
    Ready 0 quiet ∧ Ready 0 full ∧ validHeadset 0 = false ∧ 63 < (64 : Byte).toNat ∧
      15 < (16 : Byte).toNat ∧ (15 : Byte).toNat ≤ 15 ∧ quiet.owner 1 ≠ some 0 ∧ quiet.owner 0 = some 0 ∧
      quiet.findHeadset 5 = some 0 ∧ quiet.rec? 0 = some r0 ∧ r0.state ≠ .adrift ∧
      r0.serving = some { antenna := 0, group := 0, seat := 0 } ∧ (0 : AntennaId) ≠ 6 ∧ quiet.owner 6 = some 0 ∧
      quiet.findHeadset 1 = none ∧ (quiet.ant 6).state ≠ .active ∧ quiet.findHeadset 6 = some 1 ∧
      r1.state = .adrift ∧ full.findHeadset 1 = none ∧
      full.rec? 191 = none ∧ place? full 0 Profile.p3.listenBurst = none :=
  ⟨quiet_ready 0, full_ready, by decide +kernel⟩

/-- A full roster with nobody ADRIFT. -/
theorem witness_AttachIsChecked_full :
    Ready 0 crowd ∧ crowd.findHeadset 1 = none ∧ (crowd.ant 0).state = .active ∧ crowd.owner 0 = some 0 ∧
      (∀ j, ∃ r, crowd.rec? j = some r ∧ r.state ≠ .adrift) :=
  ⟨crowd_ready, crowd_unknown, by decide +kernel, by decide +kernel, fun j => ⟨r0, crowd_rec j, by decide⟩⟩

/-- The longest ADRIFT, and nobody ADRIFT. -/
theorem witness_EvictionChoosesTheLongestAdrift : victim? quiet = some 4 ∧ ∀ j, ∃ r, crowd.rec? j = some r ∧ r.state ≠ .adrift :=
  ⟨by decide +kernel, fun j => ⟨r0, crowd_rec j, by decide⟩⟩

/-- A served headset, also where another's key waits, the one that waits at its antenna, a HANDING one, and an ADRIFT one
with and without an entry. -/
theorem witness_DetachFreesTheRecord :
    let a := withRec moving 6 lost6
    (Ready 0 quiet ∧ validHeadset 5 = true ∧ quiet.findHeadset 5 = some 0 ∧ quiet.rec? 0 = some r0 ∧
      r0.handoff = none ∧ r0.serving = some { antenna := 0, group := 0, seat := 0 } ∧ r0.key ≠ .waiting ∧
      (quiet.ant 0).queue = [] ∧ quiet.findHeadset 8 = some 3 ∧ quiet.rec? 3 = some r3 ∧ r3.key = .waiting ∧
      (quiet.ant 6).queue.filter (fun j => j != 3) = [] ∧ quiet.findHeadset 6 = some 1 ∧ quiet.rec? 1 = some r1 ∧
      r1.serving = none ∧ r1.handoff = none) ∧
    (Ready 0 moving ∧ validHeadset 10 = true ∧ moving.findHeadset 10 = some 5 ∧ moving.rec? 5 = some r5 ∧
      moving.entryOf? r5 = some x0 ∧ x0.headset = 5 ∧ r5.serving = some { antenna := 0, group := 2, seat := 0 } ∧
      r5.key ≠ .waiting) ∧
    (Ready 0 a ∧ validHeadset 11 = true ∧ a.findHeadset 11 = some 6 ∧ a.rec? 6 = some lost6 ∧
      a.entryOf? lost6 = some x1 ∧ x1.headset = 6 ∧ lost6.serving = none) ∧
    (Ready 0 busy ∧ busy.findHeadset 5 = some 0 ∧ busy.rec? 0 = some r0 ∧ (busy.ant 0).queue ≠ []) := by
  refine ⟨⟨quiet_ready 0, ?_⟩, ⟨moving_ready 0, ?_⟩, ?_, still (by decide +kernel) |> fun h => ⟨rfl, h, ?_⟩, ?_⟩ <;>
    decide +kernel

/-- The same set and another; one seat, two, the reserved one alone, none. -/
theorem witness_ListenReplacesTheSet :
    Ready 0 moving ∧ validHeadset 5 = true ∧ moving.findHeadset 5 = some 0 ∧ moving.rec? 0 = some r0 ∧
      (3 : ListenSet) = r0.listen ∧ (0x8000 : ListenSet) ≠ r0.listen ∧
      r0.serving = some { antenna := 0, group := 0, seat := 0 } ∧ moving.targetOf? r0 = none ∧
      moving.findHeadset 10 = some 5 ∧ moving.rec? 5 = some r5 ∧
      r5.serving = some { antenna := 0, group := 2, seat := 0 } ∧ moving.targetOf? r5 = some 1 ∧
      moving.targetOf? { r6 with state := .adrift, serving := none } = some 1 ∧
      moving.findHeadset 6 = some 1 ∧ moving.rec? 1 = some r1 ∧ r1.serving = none ∧ moving.targetOf? r1 = none :=
  ⟨moving_ready 0, by decide +kernel⟩

/-- Without an entry, served and ADRIFT; with one that is PREPARING, MOVING and QUEUED. -/
theorem witness_QueryHeadsetReportsTheRecord :
    (Ready 3 quiet ∧ Ready 3 queued) ∧ validHeadset 5 = true ∧ quiet.findHeadset 5 = some 0 ∧ quiet.rec? 0 = some r0 ∧
      r0.serving = some { antenna := 0, group := 0, seat := 0 } ∧
      r0.serveLost = some Timer.start ∧ r0.retain = none ∧ quiet.findHeadset 6 = some 1 ∧ quiet.rec? 1 = some r1 ∧
      r1.serving = none ∧ r1.serveLost = none ∧ r1.retain = some { count := 7, due := false } ∧
      queued.findHeadset 10 = some 5 ∧ queued.rec? 5 = some r5 ∧ queued.entryOf? r5 = some x0 ∧
      queued.findHeadset 11 = some 6 ∧ queued.rec? 6 = some r6 ∧ queued.entryOf? r6 = some x1 ∧
      queued.heldTarget r6 = some 1 ∧ r6.candidates = [cand 1 1800 3 none] ∧
      queued.findHeadset 12 = some 7 ∧ queued.rec? 7 = some r7 ∧ queued.entryOf? r7 = some x2 ∧
      queued.heldTarget r7 = none :=
  ⟨⟨quiet_ready 3, queued_ready 3⟩, by decide +kernel⟩

theorem witness_AntUpBringsAnAntennaUp :
    Ready 0 quiet ∧ (quiet.ant 63).state = .down ∧ (quiet.ant 6).state ≠ .down ∧ quiet.owner 6 = some 0 ∧
      (quiet.ant 1).state ≠ .down ∧ quiet.owner 1 ≠ some 0 := ⟨quiet_ready 0, by decide +kernel⟩

/-- An empty table; an inbound entry; a handoff MOVING away; a served headset without and with an entry first in roster
order; nobody served. -/
theorem witness_AntDownTakesAnAntennaDown :
    let a := withRec moving 6 lost6
    let b := ({ moving with roster := Vector.replicate 192 none, handoffs := [x0] } : State).setRec 5 (some r5)
    let served := fun (s : State) (a : AntennaId) (i : RosterIx) => (s.rec? i).any fun r => servedAt r a
    let away := fun (s : State) (i : RosterIx) => (s.rec? i).any fun r => servedAt r 0 &&
      (s.entryOf? r).any fun y => y.phase == .moving && y.source == 0
    (Ready 0 quiet ∧ Ready 0 moving ∧ (quiet.ant 0).state ≠ .down ∧ quiet.owner 0 = some 0 ∧ quiet.handoffs = [] ∧
      (moving.ant 0).state ≠ .down ∧ moving.owner 0 = some 0) ∧
    (TableInOrder moving ∧ moving.handoffs = [] ++ x0 :: [x1] ∧ x0.target = 1) ∧
    ((∀ y ∈ moving.handoffs, y.target ≠ 0) ∧ moving.rec? 6 = some r6 ∧ servedAt r6 0 = true ∧
      moving.entryOf? r6 = some x1 ∧ x1.phase = .moving ∧ x1.source = 0 ∧ (∀ j, j < 6 → away moving j = false)) ∧
    (TableInOrder a ∧ (∀ y ∈ a.handoffs, y.target ≠ 0) ∧ (∀ j, away a j = false) ∧ a.rec? 0 = some r0 ∧
      servedAt r0 0 = true ∧ r0.handoff = none) ∧
    (TableInOrder b ∧ (∀ y ∈ b.handoffs, y.target ≠ 0) ∧ (∀ j, away b j = false) ∧ b.rec? 5 = some r5 ∧
      servedAt r5 0 = true ∧ b.entryOf? r5 = some x0 ∧ x0.headset = 5 ∧ (∀ j, j < 5 → served b 0 j = false)) ∧
    (TableInOrder quiet ∧ (∀ j, away quiet j = false) ∧ (∀ j, served quiet 2 j = false)) := by
  refine ⟨⟨quiet_ready 0, moving_ready 0, ?_⟩, ?_, ?_, ?_, ?_, ?_⟩ <;> decide +kernel

/-- An ACTIVE antenna with and without handoffs in the table, DRAINING and CLOSED ones, and an inbound entry. -/
theorem witness_AntDrainAndAntReopen :
    Ready 0 quiet ∧ Ready 0 moving ∧ moving.owner 0 = some 0 ∧ (moving.ant 0).state = .active ∧
      quiet.owner 0 = some 0 ∧ (quiet.ant 0).state = .active ∧ quiet.handoffs = [] ∧
      (∀ i, ((quiet.rec? i).map fun r => r.candidates).getD [] = []) ∧ quiet.owner 6 = some 0 ∧
      (quiet.ant 6).state = .draining ∧ quiet.owner 7 = some 0 ∧ (quiet.ant 7).state = .closed ∧
      TableInOrder moving ∧ moving.handoffs = [] ++ x0 :: [x1] ∧ x0.target = 1 ∧
      (∀ y ∈ moving.handoffs, y.target ≠ 0) :=
  ⟨quiet_ready 0, moving_ready 0, by decide +kernel⟩

theorem witness_CardRestartTakesItsAntennasDown :
    Ready 0 quiet ∧ Ready 3 quiet ∧ quiet.handoffs = [] ∧ Ready 0 moving ∧ moving.handoffs ≠ [] :=
  ⟨quiet_ready 0, quiet_ready 3, by decide +kernel, moving_ready 0, by decide +kernel⟩

theorem witness_AntennaRequestsAreChecked :
    Ready 0 quiet ∧ 63 < (64 : Byte).toNat ∧ (quiet.ant 63).state = .down ∧ (quiet.ant 1).state ≠ .down ∧
      quiet.owner 1 ≠ some 0 ∧ 24 < (List.replicate 25 ((5 : HeadsetId), (0 : Byte))).length ∧
      validHeadset ((0 : HeadsetId), (0 : Byte)).1 = false ∧
      [((5 : HeadsetId), (0 : Byte))] ≠ [] ∧ (List.replicate 24 ((5 : HeadsetId), (0 : Byte))).length ≤ 24 ∧
      ([((5 : HeadsetId), (0 : Byte))].all fun p => validHeadset p.1) = true ∧ quiet.owner 63 ≠ some 0 :=
  ⟨quiet_ready 0, by decide +kernel⟩

theorem witness_QueryAntennaReportsThePlan :
    Ready 3 moving ∧ ∀ g n, (((moving.ant 1).plan.get g).seat n).all (fun x => (moving.rec? x.headset).isSome) = true :=
  ⟨moving_ready 3, by decide +kernel⟩

/-- A grant without and with a move out of the group, a place in the queue, a full queue. -/
theorem witness_KeyOnIsTriedByRePlacement :
    Ready 0 quiet ∧ Ready 0 full ∧ validHeadset 5 = true ∧ quiet.findHeadset 5 = some 0 ∧ quiet.rec? 0 = some r0 ∧
      r0.state = .settled ∧ r0.key = .off ∧ r0.serving = some { antenna := 0, group := 0, seat := 0 } ∧
      quiet.owner 0 = some 0 ∧ (rePlace? quiet 0).map Prod.snd = some true ∧
      (rePlace? (sit 0 r0 world) 0).map Prod.snd = some false ∧
      full.findHeadset 5 = some 0 ∧ full.rec? 0 = some r0 ∧
      rePlace? full 0 = none ∧ (full.ant 0).queue.length < 4 ∧ 0 ∉ (full.ant 0).queue ∧
      (let s := full.modAnt 0 fun x => { x with queue := [8, 9, 10, 11] }
       Ready 0 s ∧ s.findHeadset 5 = some 0 ∧ s.rec? 0 = some r0 ∧ rePlace? s 0 = none ∧ 4 ≤ (s.ant 0).queue.length) :=
  ⟨quiet_ready 0, full_ready, by decide +kernel⟩

theorem witness_KeyOnIsDeferredOrRepeated :
    Ready 0 moving ∧ validHeadset 10 = true ∧ moving.findHeadset 10 = some 5 ∧ moving.rec? 5 = some r5 ∧
      r5.serving = some { antenna := 0, group := 2, seat := 0 } ∧ moving.owner 0 = some 0 ∧ r5.key = .off ∧
      r5.state ≠ .settled ∧ moving.findHeadset 7 = some 2 ∧ moving.rec? 2 = some r2 ∧ r2.key = .on ∧
      moving.findHeadset 9 = some 4 ∧ moving.rec? 4 = some r4 ∧ r4.state = .adrift ∧ r4.key = .pending ∧
      moving.findHeadset 8 = some 3 ∧ moving.rec? 3 = some r3 ∧ r3.key = .waiting ∧
      r3.serving = some { antenna := 6, group := 0, seat := 0 } ∧ (moving.ant 6).queue = [] ++ 3 :: [] ∧
      3 ∉ ([] : List RosterIx) ∧ moving.owner 6 = some 0 := ⟨moving_ready 0, by decide +kernel⟩

/-- An OFF, a PENDING, a WAITING and an ON key, the last also where another waits; an ON key in HANDING, its reserved seat at
the talk burst and at the listen burst. -/
theorem witness_KeyOffReleasesTheKey :
    (let on := { r5 with key := .on }
     let serving : Seat := { headset := 5, kind := .serving, burst := 500 }
     let z := withRec (reseat 1 0 (heldTalk 5) (reseat 0 2 serving moving)) 5 on
     let y := withRec (reseat 0 2 serving moving) 5 on
     Ready 0 z ∧ validHeadset 10 = true ∧ z.findHeadset 10 = some 5 ∧ z.rec? 5 = some on ∧
       on.serving = some { antenna := 0, group := 2, seat := 0 } ∧ z.owner 0 = some 0 ∧ z.entryOf? on = some x0 ∧
       x0.reserved = some (0, 0) ∧ (z.burstLowered 0 2 0 .p1).keyedSeat 1 0 0 .p1 = true ∧
       Ready 0 y ∧ y.entryOf? on = some x0 ∧ (y.burstLowered 0 2 0 .p1).keyedSeat 1 0 0 .p1 = false) ∧
    (let w := quiet.modAnt 0 fun x => { x with queue := [0] }
     Quiet w ∧ w.findHeadset 7 = some 2 ∧ w.rec? 2 = some r2 ∧ w.entryOf? r2 = none ∧ (w.ant 0).queue ≠ []) ∧
    Ready 0 quiet ∧ quiet.findHeadset 5 = some 0 ∧ quiet.rec? 0 = some r0 ∧ r0.key = .off ∧ quiet.owner 0 = some 0 ∧
      quiet.findHeadset 9 = some 4 ∧ quiet.rec? 4 = some r4 ∧ r4.key = .pending ∧ r4.state = .adrift ∧
      quiet.findHeadset 8 = some 3 ∧ quiet.rec? 3 = some r3 ∧ r3.key = .waiting ∧ quiet.owner 6 = some 0 ∧
      r3.serving = some { antenna := 6, group := 0, seat := 0 } ∧
      quiet.findHeadset 7 = some 2 ∧ quiet.rec? 2 = some r2 ∧ r2.key = .on ∧ r2.handoff = none ∧
      r2.serving = some { antenna := 0, group := 1, seat := 0 } ∧ (quiet.ant 0).queue = [] ∧
      ((quiet.ant 0).plan.get 1).seat 0 = some { headset := 2, kind := .serving, burst := 500 } ∧
      r2.profile.talkBurst = 500 :=
  ⟨by decide +kernel, ⟨still (by decide +kernel), by decide +kernel⟩, quiet_ready 0, by decide +kernel⟩

/-- Parameter numbers that name nothing, a link that may not, and values within and beyond both ends of the range. -/
theorem witness_SetStoresTheClampedValue :
    Ready 0 quiet ∧ Ready 1 quiet ∧ Param.ofNumber? 0 = none ∧ Param.ofNumber? 15 = none ∧
      Param.ofNumber? 1 = some .filterWeight ∧ (1 : LinkId) ≠ quiet.settingsLink ∧ 0 = quiet.settingsLink ∧
      plainParameter 1 = true ∧ 1 = max Param.filterWeight.low (min Param.filterWeight.high (0 : BitVec 16).toNat) ∧
      16 = max Param.filterWeight.low (min Param.filterWeight.high (16 : BitVec 16).toNat) ∧
      16 = max Param.filterWeight.low (min Param.filterWeight.high (17 : BitVec 16).toNat) :=
  ⟨quiet_ready 0, quiet_ready 1, by decide +kernel⟩

/-- GUARD: not permitted, as stored, over the limit, accepted; and lowered where a key waits. -/
theorem witness_AirtimeParametersAreChecked :
    (Ready 0 full ∧ Quiet busy) ∧ (∀ l, Ready l unkeyed) ∧ (1 : LinkId) ≠ unkeyed.settingsLink ∧
      0 = unkeyed.settingsLink ∧ 40 = max Param.guardTime.low (min Param.guardTime.high (40 : BitVec 16).toNat) ∧
      40 = unkeyed.params.read .guardTime ∧
      200 = max Param.guardTime.low (min Param.guardTime.high (201 : BitVec 16).toNat) ∧
      200 ≠ full.params.read .guardTime ∧ 0 = full.settingsLink ∧
      (∃ a, (full.ant a).state ≠ .down ∧ 10000 - (full.params.write .guardTime 200).reserve <
        airtimeOf (full.params.write .guardTime 200) (full.ant a).plan) ∧
      200 ≠ unkeyed.params.read .guardTime ∧
      (∀ a, (unkeyed.ant a).state ≠ .down → airtimeOf (unkeyed.params.write .guardTime 200) (unkeyed.ant a).plan ≤
        10000 - (unkeyed.params.write .guardTime 200).reserve) ∧
      (∀ a, (unkeyed.ant a).queue = []) ∧
      (0 = busy.settingsLink ∧ 20 = max Param.guardTime.low (min Param.guardTime.high (20 : BitVec 16).toNat) ∧
        20 ≠ busy.params.read .guardTime ∧ (busy.ant 0).queue ≠ [] ∧
        (∀ a, (busy.ant a).state ≠ .down → airtimeOf (busy.params.write .guardTime 20) (busy.ant a).plan ≤
          10000 - (busy.params.write .guardTime 20).reserve) ∧
        airtimeOf (busy.params.write .guardTime 20) (busy.ant 0).plan < (busy.ant 0).airtime) :=
  ⟨⟨full_ready, still (by decide +kernel)⟩, by decide +kernel⟩

/-- A value below some link's depth; a raise with nothing QUEUED and with an entry QUEUED. -/
theorem witness_HandoffDepthIsChecked :
    (Ready 0 moving ∧ Ready 1 moving ∧ Ready 0 queued) ∧ 1 = max 1 (min 4 (0 : BitVec 16).toNat) ∧
      4 = max 1 (min 4 (5 : BitVec 16).toNat) ∧ (1 : LinkId) ≠ moving.settingsLink ∧ 0 = moving.settingsLink ∧
      1 ≠ moving.params.handoffDepth ∧ (∃ k, 1 < moving.depth k) ∧ (∀ k, moving.depth k ≤ 4) ∧
      (∀ x ∈ moving.handoffs, x.phase ≠ .queued) ∧ 0 = queued.settingsLink ∧
      (∀ k, queued.depth k ≤ 4) ∧ (∀ k, queued.depth k ≤ 2) ∧ queued.params.handoffDepth < 4 ∧
      2 ≤ queued.params.handoffDepth ∧ x2 ∈ queued.handoffs ∧ x2.phase = .queued :=
  ⟨⟨moving_ready 0, moving_ready 1, queued_ready 0⟩, by decide +kernel⟩

theorem witness_GetReadsTheStore :
    Ready 3 quiet ∧ Param.ofNumber? 15 = none ∧ Param.ofNumber? 14 = some .reserve :=
  ⟨quiet_ready 3, by decide +kernel⟩

/-- Both ends of the trim range and the values beyond them. -/
theorem witness_TrimAndQueryClock :
    Ready 0 quiet ∧ Ready 1 quiet ∧ (1 : LinkId) ≠ quiet.settingsLink ∧ 0 = quiet.settingsLink ∧
      -2048 ≤ (0xF800 : BitVec 16).toInt ∧ (0xF800 : BitVec 16).toInt ≤ 2047 ∧ (0x07FF : BitVec 16).toInt ≤ 2047 ∧
      (0xF7FF : BitVec 16).toInt < -2048 ∧ 2047 < (0x0800 : BitVec 16).toInt :=
  ⟨quiet_ready 0, quiet_ready 1, by decide +kernel⟩

theorem witness_ClearFlagsClearsTheMask : Ready 2 quiet := quiet_ready 2

/-- A request, kinds that name none, an ATTACH body of 9 bytes, a LEVELS body of 8 that counts two pairs, and a KEY of key
field 2; a QUERY CLOCK body of 3 bytes before its check byte. -/
theorem witness_EveryRequestGetsOneReply :
    let s := assembling (.check [0x1A, 9, 0] 0x25)
    (Ready 0 s ∧ (s.link 0).asm = .check [0x1A, 9, 0] 0x25 ∧ (0x25 : Byte) + 0xDB = 0 ∧ 0x1A ∈ requestKinds ∧
      lengthFits [0x1A, 9, 0] = false ∧ 0x08 ∈ requestKinds ∧ 0x0A ∈ requestKinds ∧ 0x0C ∈ requestKinds ∧
      lengthFits [0x08, 9, 0, 0, 5, 0, 1, 0, 7] = false ∧ lengthFits [0x0A, 9, 1, 2, 0, 0, 5, 90] = false ∧
      ([0, 0, 5, 2] : List Byte) = bytes24 5 ++ [2] ∧ (2 : Byte) ≠ 0x00 ∧ (2 : Byte) ≠ 0x01) ∧
    Ready 0 quiet ∧ requestOf (.get 0 9 1) = some (0, Request.make 9 (.get 1)) ∧ (0x24 : Byte) ∉ requestKinds ∧
      (0x00 : Byte) ∉ requestKinds :=
  ⟨⟨⟨rfl, still (by decide +kernel), by decide +kernel⟩, by decide +kernel⟩, quiet_ready 0, by decide +kernel⟩

/-- A reply held with one request waiting, and with two. -/
theorem witness_RequestsWaitAndOverrun :
    Quiet (waiting 1) ∧ Quiet (waiting 2) ∧ requestOf (.get 0 9 1) = some (0, Request.make 9 (.get 1)) ∧
      (waiting 1).resetHeld = false ∧ ((waiting 1).link 0).reply ≠ none ∧ ((waiting 1).link 0).slots.length < 2 ∧
      2 ≤ ((waiting 2).link 0).slots.length := ⟨still (by decide +kernel), still (by decide +kernel), by decide +kernel⟩

theorem witness_CharactersAreAssembled :
    Quiet (assembling .hunt) ∧ Quiet (assembling (.body 2 [0x1A] 0x1C)) ∧
      ((assembling .hunt).link 0).asm = .hunt ∧ ((assembling (.body 2 [0x1A] 0x1C)).link 0).asm = .body 2 [0x1A] 0x1C ∧
      [(0x1A : Byte)].length + 1 = 2 := ⟨still (by decide +kernel), still (by decide +kernel), by decide +kernel⟩

theorem witness_LengthBytesAreChecked :
    Quiet (assembling .length) ∧ (assembling .length).resetHeld = false ∧ ((assembling .length).link 0).asm = .length ∧
      2 ≤ (2 : Byte).toNat ∧ (200 : Byte).toNat ≤ 200 ∧ (1 : Byte).toNat < 2 ∧ 200 < (201 : Byte).toNat :=
  ⟨still (by decide +kernel), by decide +kernel⟩

/-- QUERY CLOCK with tag 9: a wrong check byte; the right one at a free link, behind a reply, and with both slots full. -/
theorem witness_CheckBytesAreChecked :
    let a : Assembler := .check [0x1A, 9] 0x25
    let s := fun n => (waiting n).modLink 0 fun x => { x with asm := a }
    Quiet (assembling a) ∧ Quiet (s 1) ∧ Quiet (s 2) ∧ (0x25 : Byte) + 0 ≠ 0 ∧ (0x25 : Byte) + 0xDB = 0 ∧
      ((s 1).link 0).asm = a ∧ ((s 1).link 0).reply ≠ none ∧ ((s 1).link 0).slots.length < 2 ∧
      ((s 2).link 0).slots.length = 2 ∧ requestOf (.queryClock 0 9) = some (0, Request.ofBody [0x1A, 9]) :=
  ⟨still (by decide +kernel), still (by decide +kernel), still (by decide +kernel), by decide +kernel⟩

theorem witness_LineErrorsAndBreaks :
    quiet.resetHeld = false ∧ Quiet quiet ∧ ((assembling .length).link 0).asm ≠ .hunt ∧ (quiet.link 0).asm = .hunt :=
  ⟨(quiet_ready 0).1, (quiet_ready 0).2.1, by decide +kernel⟩

/-- On the idle link: a reply; a PREPARE (of CL1's link), a MOVE and a FRAME PLAN. -/
theorem witness_TransmittersBeginInOrder :
    let s := idle moving
    let t := moving.modLink 1 fun x => { x with tx := none }
    let u := idle quiet
    s.resetHeld = false ∧ (s.link 0).tx = none ∧
      (((s.modLink 0 fun x => { x with reply := some [0x9A] }).link 0).reply = some [0x9A]) ∧
      ((t.link 1).tx = none ∧ (t.link 1).reply = none ∧ t.handoffs = [] ++ x0 :: [x1] ∧ x0.prepareDue = true ∧
        t.owner x0.target = some 1 ∧ t.rec? x0.headset = some r5 ∧ x0.reserved = some (0, 0) ∧
        ((t.ant x0.target).plan.get 0).seat 0 = some (held 5)) ∧
      ((∀ y ∈ s.handoffs, y.prepareDue = true → s.owner y.target ≠ some 0) ∧ s.handoffs = [x0] ++ x1 :: [] ∧
        (∀ y ∈ [x0], y.moveDue = true → servingOwner s y ≠ some 0) ∧ x1.moveDue = true ∧
        s.rec? x1.headset = some r6 ∧ r6.serving = some { antenna := 0, group := 3, seat := 0 } ∧
        s.owner 0 = some 0 ∧ x1.reserved = some (1, 0) ∧ x1.switchFrame = some 2) ∧
      ((∀ y ∈ u.handoffs, y.moveDue = true → servingOwner u y ≠ some 0) ∧
        (∀ b, b < (0 : AntennaId) → (u.ant b).planDue = true → u.owner b ≠ some 0) ∧ (u.ant 0).planDue = true) := by
  decide +kernel

/-- With nothing to send the four transmission rows leave the state. -/
theorem idle_stays {s : State} {l : LinkId} (hr : s.resetHeld = false) (h : txChoice l s = none) :
    ∀ c ∈ [Instr.replyTransmission l, .prepareNotice l, .moveNotice l, .framePlanNotice l], exec c s = .next s := by
  simp [exec, execReplyTransmission, execPrepareNotice, execMoveNotice, execFramePlanNotice, whenRunning, hr, h]

/-- A notice that ends with nothing to send and with a FRAME PLAN due, a reply that ends, and a reply that ends with a
request waiting. -/
theorem witness_MessageEndsFreeTheLine :
    let m : Message := { isReply := true, chars := [] }
    let s := ended.modLink 0 fun x => { x with tx := some { m with isReply := false } }
    let t := ended.modLink 0 fun x => { x with tx := some m, reply := some [0x9A] }
    let u := t.modLink 0 fun x => { x with slots := [Request.make 9 .queryClock] }
    let begins : List Instr := [.replyTransmission 0, .prepareNotice 0, .moveNotice 0, .framePlanNotice 0]
    let v := execute 0 (Request.make 9 .queryClock) (u.modLink 0 fun x => { x with tx := none, reply := none, slots := [] })
    (Quiet s ∧ s.resetHeld = false ∧ (s.link 0).tx = some { m with isReply := false } ∧
      ∀ c ∈ begins, exec c (s.modLink 0 fun x => { x with tx := none }) = .next (s.modLink 0 fun x => { x with tx := none })) ∧
    (Quiet quiet ∧ (quiet.link 0).tx = some { m with isReply := false } ∧
      ((after (exec (.framePlanNotice 0) (idle quiet))).ant 0).planDue ≠ ((idle quiet).ant 0).planDue) ∧
    (Quiet t ∧ (t.link 0).tx = some m ∧ (t.link 0).slots = []) ∧
    (Quiet u ∧ (u.link 0).tx = some m ∧ (u.link 0).slots = Request.make 9 .queryClock :: [] ∧
      (v.link 0).reply ≠ none) ∧
    (Ready 0 quiet ∧ requestOf (.queryClock 0 9) = some (0, Request.make 9 .queryClock)) := by
  refine ⟨⟨still (by decide +kernel), ?_, ?_, ?_⟩, ⟨(quiet_ready 0).2.1, ?_⟩, ⟨still (by decide +kernel), ?_⟩,
    ⟨still (by decide +kernel), ?_⟩, quiet_ready 0, ?_⟩
  case refine_3 => exact idle_stays rfl (by decide +kernel)
  all_goals decide +kernel

theorem witness_RequestRowsAreTheirCharacters :
    requestOf (.levels 0 9 1 [(5, 40)]) = some (0, Request.make 9 (.levels 1 [(5, 40)])) ∧
      (Instr.levels 0 9 1 [(5, 40)]).wellFormed = true ∧ quiet.resetHeld = false ∧ Quiet quiet ∧
      (quiet.link 0).asm = .hunt ∧ (quiet.link 0).awaitHigh = false ∧
      (Instr.levels 0 9 1 (List.replicate 49 (5, 40))).wellFormed = true :=
  ⟨by decide +kernel, by decide +kernel, (quiet_ready 0).1, (quiet_ready 0).2.1, by decide +kernel⟩

theorem witness_PlacementChoosesTheLeastIncrease :
    place? quiet 0 300 = some { group := 1, seat := 1, increase := 0 } ∧ place? full 0 300 = none ∧
      ((quiet.ant 0).plan.get 1).lone? = some ({ headset := 2, kind := .serving, burst := 500 }, 1) := by
  decide +kernel

/-- Alone in its group, beside a partner, and where nothing fits. -/
theorem witness_RePlacementChoosesTheLeastIncrease :
    let s := sit 5 { r5 with serving := some { antenna := 0, group := 1, seat := 1 } } quiet
    ParamsInRange quiet ∧ quiet.rec? 0 = some r0 ∧ r0.serving = some { antenna := 0, group := 0, seat := 0 } ∧
      (rePlace? quiet 0).isSome = true ∧ full.rec? 0 = some r0 ∧ rePlace? full 0 = none ∧
      (rePlace? s 5).map Prod.snd = some false :=
  ⟨fun q => by cases q <;> decide +kernel, by decide +kernel⟩

/-- A head that is granted, one that cannot be re-placed, and an empty queue. -/
theorem witness_QueueTrialsStopAtTheFirstFailure :
    (let s := withRec (quiet.modAnt 0 fun x => { x with queue := [0, 2] }) 0 { r0 with key := .waiting }
     (s.ant 0).queue = 0 :: [2] ∧ (rePlace? s 0).isSome = true) ∧
    (let s := withRec (full.modAnt 0 fun x => { x with queue := [0] }) 0 { r0 with key := .waiting }
     (s.ant 0).queue = 0 :: [] ∧ rePlace? s 0 = none) ∧
    (quiet.ant 0).queue = [] := by
  refine ⟨?_, ?_, ?_⟩ <;> decide +kernel

theorem witness_FilterAndWeak :
    1 ≤ 1 ∧ 16 ≤ 16 ∧ 4080 ≤ 4080 ∧ (16 * (-255) : Int) ≤ (((0 : Byte).toNat * 16 : Int) - 4080) * 1 + 8 ∧
      (((0 : Byte).toNat * 16 : Int) - 4080) * 1 + 8 < 16 * (-255 + 1) ∧ 639 < Params.default.lossLevel * 16 ∧
      Params.default.lossLevel * 16 ≤ 640 ∧ 767 < (Params.default.lossLevel + Params.default.lossHyst) * 16 ∧
      (Params.default.lossLevel + Params.default.lossHyst) * 16 ≤ 768 := by decide +kernel

/-- A start, a wait at depth, and a wait behind an older QUEUED entry; a start of a headset that waits; one that finds no
room, and one whose target is in no list. -/
theorem witness_TriggeredHandoffsStartOrQueue :
    let r := { r0 with candidates := [cand 2 1800 3 (some Timer.start)] }
    let s := withRec moving 0 r
    let t := ({ queued with params := { Params.default with handoffDepth := 4 } } : State)
    s.rec? 0 = some r ∧ r.serving = some { antenna := 0, group := 0, seat := 0 } ∧
      (s.ant 1).state = .active ∧ s.owner 1 = some 1 ∧ (∀ x ∈ s.handoffs, x.num ≠ 2) ∧
      (∀ f, f < (2 : EntryNo) → ∃ x ∈ s.handoffs, x.num = f) ∧ s.params.handoffDepth ≤ s.depth 1 ∧
      (s.ant 2).state = .active ∧ s.owner 2 = some 2 ∧ s.depth 2 < s.params.handoffDepth ∧
      (∀ x ∈ s.handoffs, x.phase = .queued → s.owner x.target ≠ some 2) ∧ (∃ c ∈ r.candidates, c.antenna = 2) ∧
      place? s 2 r.profile.listenBurst = some { group := 0, seat := 0, increase := 240 } ∧
      t.depth 1 < t.params.handoffDepth ∧ (∃ x ∈ t.handoffs, x.phase = .queued ∧ t.owner x.target = some 1) ∧
      t.rec? 0 = some r0 ∧ (∀ x ∈ t.handoffs, x.num ≠ 3) ∧ (∀ f, f < (3 : EntryNo) → ∃ x ∈ t.handoffs, x.num = f) ∧
      (let q := { r3 with candidates := [cand 2 1800 3 (some Timer.start)] }
       let w := withRec moving 3 q
       w.rec? 3 = some q ∧ q.key = .waiting ∧ q.serving = some { antenna := 6, group := 0, seat := 0 } ∧
         (w.ant 6).queue = [3] ∧ place? w 2 q.profile.listenBurst = some { group := 0, seat := 0, increase := 240 }) ∧
      (let z := stuffed 2 s
       z.rec? 0 = some r ∧ (z.ant 2).state = .active ∧ z.owner 2 = some 2 ∧ z.depth 2 < z.params.handoffDepth ∧
         place? z 2 r.profile.listenBurst = none ∧ (∀ c ∈ r0.candidates, c.antenna ≠ 2)) := by
  decide +kernel

/-- Exactly at MARGIN with exactly DWELL, behind an entry one unit short; a WEAK record and one served at a DRAINING antenna
with a dwell of 1; a HANDING record and its target candidate; an ADRIFT record; no candidate. -/
theorem witness_EvaluationsTakeTheFirstSuitable :
    let near := cand 2 1695 3 (some Timer.start)
    let c := cand 1 1696 3 (some Timer.start)
    let q := { r0 with candidates := [near, c] }
    let w := { r0 with weak := true, f16s := 600, candidates := [cand 1 640 1 none] }
    let d := { r3 with candidates := [cand 1 640 1 none] }
    (∀ x ∈ [withRec quiet 0 q], x.rec? 0 = some q ∧ q.candidates = [near] ++ c :: [] ∧
      ¬ q.f16s + x.params.margin * 16 ≤ near.f16 ∧ (x.ant c.antenna).state = .active ∧ c.blocked = false ∧
      x.entryOf? q = none ∧ (x.ant 0).state ≠ .draining ∧ q.weak = false ∧
      q.f16s + x.params.margin * 16 ≤ c.f16 ∧ x.params.dwell ≤ c.dwell ∧ q.state = .settled ∧ x.handoffs.length < 16) ∧
    (∀ x ∈ [withRec quiet 0 w], x.rec? 0 = some w ∧ (x.ant 0).state ≠ .draining ∧ w.f16s ≤ 640 ∧
      x.params.lossLevel * 16 ≤ 640 ∧ (x.ant 1).state = .active ∧ x.entryOf? w = none) ∧
    (∀ x ∈ [withRec quiet 3 d], x.rec? 3 = some d ∧ (x.ant 6).state = .draining ∧ x.params.lossLevel * 16 ≤ 640 ∧
      x.entryOf? d = none) ∧
    (moving.rec? 5 = some r5 ∧ moving.entryOf? r5 = some x0 ∧ x0.phase ≠ .queued ∧ r5.candidates = [cand 1 1800 3 none] ∧
      x0.target = 1 ∧ r5.state ≠ .settled) ∧
    (quiet.rec? 1 = some r1 ∧ r1.state ≠ .settled ∧ quiet.rec? 0 = some r0 ∧ r0.candidates = []) := by
  refine ⟨?_, ?_, ?_, ?_, ?_⟩ <;> decide +kernel

/-- At depth; no entry QUEUED; below depth with one: a start, one that finds no room, and ones whose target is DRAINING and
in no list. -/
theorem witness_DepthReleasesStartWhatTheyCan :
    let t : State := { queued with params := { Params.default with handoffDepth := 4 } }
    let on := { r7 with key := .on }
    let z := withRec (stuffed 1 t) 7 on
    let d := t.modAnt 1 fun x => { x with state := .draining }
    let n := withRec t 7 { r7 with candidates := [] }
    (TableInOrder queued ∧ queued.params.handoffDepth ≤ queued.depth 1 ∧
      ∀ x ∈ moving.handoffs, x.phase = .queued → moving.owner x.target ≠ some 1) ∧
    (TableInOrder t ∧ t.depth 1 < t.params.handoffDepth ∧ t.handoffs = [x0, x1] ++ x2 :: [] ∧
      (∀ y ∈ [x0, x1], y.phase = .queued → t.owner y.target ≠ some 1) ∧ x2.phase = .queued ∧ t.owner x2.target = some 1 ∧
      t.rec? x2.headset = some r7 ∧ (t.ant x2.target).state = .active ∧ (∃ c ∈ r7.candidates, c.antenna = x2.target) ∧
      place? t x2.target r7.profile.listenBurst = some { group := 0, seat := 1, increase := 0 }) ∧
    (z.rec? x2.headset = some on ∧ z.depth 1 < z.params.handoffDepth ∧ z.owner x2.target = some 1 ∧
      (z.ant x2.target).state = .active ∧ place? z x2.target on.profile.talkBurst = none) ∧
    (d.owner x2.target = some 1 ∧ (d.ant x2.target).state ≠ .active) ∧
    n.rec? x2.headset = some { r7 with candidates := [] } := by decide +kernel

theorem witness_CommandsKeepWhatIsNotTheirs :
    Instr.fsyncPulseEnd ≠ .frameBoundary ∧ Instr.fsyncPulseEnd ≠ .reset ∧ canExecute .fsyncPulseEnd = false := by
  decide +kernel

theorem witness_LinksAreIndependent : linkOf (.lineBreak 0) = some 0 ∧ (3 : LinkId) ≠ 0 ∧
    (match exec (.lineBreak 0) quiet with | .next _ => true | _ => false) = true := by decide +kernel

/-- A state with traffic meets every invariant, and steps. -/
theorem witness_invariants :
    ClockInRange moving ∧ LinksInOrder moving ∧ AirtimeHolds moving ∧ TableInOrder moving ∧ QueuesInOrder moving ∧
      (∀ i, (moving.rec? i).all (fun r => decide (r.f16s ≤ 4080) &&
        r.candidates.all fun c => decide (c.f16 ≤ 4080) && decide (c.dwell ≤ 255)) = true) ∧
      (∀ i, (ripened.rec? i).all (fun r => decide (timerCount r.serveLost ≤ 254) && decide (timerCount r.retain ≤ 65534) &&
        r.candidates.all fun c => decide (timerCount c.age ≤ 254)) = true) ∧
      (∀ x ∈ ripened.handoffs, timerCount x.prepTimer ≤ 254 ∧ timerCount x.moveTimer ≤ 254) ∧
      (match step { moving with pending := [.fsyncPulseEnd] } with | .next _ => true | _ => false) = true := by
  decide +kernel

theorem witness_invariants_params : ParamsInRange moving := fun q => by cases q <;> decide +kernel

/-- The premises of LevelsAndCountsStayInRange together: counts at their highest, the table in order, and the state steps. -/
theorem witness_LevelsAndCountsStayInRange :
    let s : State := { ripened with pending := [.prepareTimerExpiry 0] }
    ParamsInRange s ∧ TableInOrder s ∧ LevelsInRange s ∧ CountsInRange s ∧
      (match step s with | .next _ => true | _ => false) = true := by
  have h : ∀ i, (ripened.rec? i).all (fun r => decide (r.f16s ≤ 4080 ∧ (∀ c ∈ r.candidates, c.f16 ≤ 4080 ∧ c.dwell ≤ 255) ∧
      (∀ t ∈ r.serveLost, t.count ≤ 254) ∧ (∀ t ∈ r.retain, t.count ≤ 65534) ∧
      ∀ c ∈ r.candidates, ∀ t ∈ c.age, t.count ≤ 254)) = true := by decide +kernel
  have record : ∀ i r, ripened.rec? i = some r → _ := fun i r hr => of_decide_eq_true (by simpa [hr] using h i)
  have entries : ∀ x ∈ ripened.handoffs, (∀ t ∈ x.prepTimer, t.count ≤ 254) ∧ ∀ t ∈ x.moveTimer, t.count ≤ 254 := by
    decide +kernel
  exact ⟨witness_invariants_params, by decide +kernel, fun i r hr => ⟨(record i r hr).1, (record i r hr).2.1⟩,
    ⟨fun i r hr => (record i r hr).2.2, entries⟩, by decide +kernel⟩

end Sys2Proof.Tests
end

section
/-! The checks that the headset requests share (R3), and the requests that read or refuse. -/

namespace Sys2Proof.Machine

/-! ### The checks of a headset request -/

/-- An invalid headset ID is BAD FIELD (R3). -/
theorem withHeadset_of_invalid {h : HeadsetId} (hv : validHeadset h = false) (missing : Status) (s : State)
    (act : RosterIx → Record → Answer) : withHeadset h missing s act = .refuse s .badField := by
  simp [withHeadset, hv]

/-- A headset that no record carries gets the request's own status (R3). -/
theorem withHeadset_of_unknown {h : HeadsetId} {s : State} (hv : validHeadset h = true) (hf : s.findHeadset h = none)
    (missing : Status) (act : RosterIx → Record → Answer) : withHeadset h missing s act = .refuse s missing := by
  simp [withHeadset, hv, hf]

/-- A known headset's request acts on its record (R3). -/
theorem withHeadset_of_known {h : HeadsetId} {s : State} {i : RosterIx} {r : Record} (hv : validHeadset h = true)
    (hf : s.findHeadset h = some i) (hr : s.rec? i = some r) (missing : Status) (act : RosterIx → Record → Answer) :
    withHeadset h missing s act = act i r := by
  simp [withHeadset, hv, hf, hr]

/-- The KEY field of a KEY_ON row passes its check (R66). -/
theorem doKey_on (l : LinkId) (h : HeadsetId) (s : State) :
    doKey l h 0x01 s = withHeadset h .noSuchHeadset s fun i r =>
      if mayKey l r s = false then .refuse s .notOwner else keyOn i r s := rfl

/-- The KEY field of a KEY_OFF row passes its check (R66). -/
theorem doKey_off (l : LinkId) (h : HeadsetId) (s : State) :
    doKey l h 0x00 s = withHeadset h .noSuchHeadset s fun i r =>
      if mayKey l r s = false then .refuse s .notOwner else keyAnswer i .ok (releaseKey i r s) := rfl

/-- ARRIVED with an antenna field above 63 is BAD FIELD (R124). -/
theorem doArrived_of_high {b : Byte} (hb : 63 < b.toNat) (l : LinkId) (h : HeadsetId) (s : State) :
    doArrived l h b s = .refuse s .badField := by
  simp [doArrived, antennaOf?_of_high hb]

/-- An antenna field up to 63 spells an antenna (R161). -/
theorem exists_antenna_of_low {b : Byte} (hb : b.toNat ≤ 63) : ∃ a : AntennaId, b = byteOf a.val :=
  ⟨⟨b.toNat, by omega⟩, by simp [byteOf]⟩

/-- ARRIVED with an antenna field that spells an antenna (R124). -/
theorem doArrived_byteOf (l : LinkId) (h : HeadsetId) (a : AntennaId) (s : State) :
    doArrived l h (byteOf a.val) s = withHeadset h .stale s fun _ r => arrivedAt l r a s := by
  simp [doArrived, antennaOf?_byteOf]

/-! ### What READY, DECLINE, ARRIVED, STAY and KEY refuse -/

/-- READY and DECLINE without a PREPARING entry toward an antenna of the link are STALE (R117). -/
theorem answerPrepare_of_stale {l : LinkId} {h : HeadsetId} {s : State} {i : RosterIx} {r : Record}
    (hv : validHeadset h = true) (hf : s.findHeadset h = some i) (hr : s.rec? i = some r)
    (hx : ∀ x, s.entryOf? r = some x → x.phase = .preparing → s.owner x.target ≠ some l) (act : Entry → State) :
    answerPrepare l h s act = .refuse s .stale := by
  unfold answerPrepare
  rw [withHeadset_of_known hv hf hr]
  cases he : s.entryOf? r with
  | none => rfl
  | some x => exact if_neg fun ⟨hp, ho⟩ => hx x he hp ho

/-- A record's MOVING entry is the one toward its target. -/
theorem movingToward_of_moving {s : State} {r : Record} {x : Entry} (he : s.entryOf? r = some x)
    (hp : x.phase = .moving) : movingToward s r x.target = some x := by
  simp [movingToward, he, hp]

theorem movingToward_eq_none {s : State} {r : Record} {a : AntennaId}
    (hx : ∀ x, s.entryOf? r = some x → x.phase = .moving → x.target ≠ a) : movingToward s r a = none := by
  unfold movingToward
  cases he : s.entryOf? r with
  | none => rfl
  | some x => exact if_neg fun ⟨hp, ht⟩ => hx x he hp ht

/-- The record is served at an antenna exactly where its serving seat is there. -/
theorem servedAt_iff {r : Record} {a : AntennaId} : servedAt r a = true ↔ ∃ v, r.serving = some v ∧ v.antenna = a := by
  simp [servedAt]

/-- ARRIVED without a MOVING entry toward the antenna: OK to the owner of the serving antenna and NOT OWNER to others at
that antenna, else STALE (R124). -/
theorem arrivedAt_of_not_moving {l : LinkId} {r : Record} {a : AntennaId} {s : State}
    (hm : movingToward s r a = none) :
    arrivedAt l r a s = .refuse s (if r.state ≠ .adrift ∧ servedAt r a = true then
      if s.owner a = some l then .ok else .notOwner else .stale) := by
  unfold arrivedAt
  rw [hm]
  dsimp only
  split
  · split <;> rfl
  · rfl

/-- A served headset that is not ADRIFT has its KEY refused to other links than its serving antenna's (R66). -/
theorem mayKey_of_foreign {l : LinkId} {r : Record} {v : Serving} {s : State} (hv : r.serving = some v)
    (ho : s.owner v.antenna ≠ some l) (ha : r.state ≠ .adrift) : mayKey l r s = false := by
  simp [mayKey, hv, ho, ha]

/-- STAY without a MOVING entry of a HANDING record is STALE (R125). -/
theorem doStay_of_stale {l : LinkId} {h : HeadsetId} {s : State} {i : RosterIx} {r : Record}
    (hv : validHeadset h = true) (hf : s.findHeadset h = some i) (hr : s.rec? i = some r)
    (hx : ∀ x, s.entryOf? r = some x → x.phase = .moving → r.state ≠ .handing) :
    doStay l h s = .refuse s .stale := by
  unfold doStay
  rw [withHeadset_of_known hv hf hr]
  cases he : s.entryOf? r with
  | none => rfl
  | some x => exact if_neg fun ⟨hs, hp⟩ => hx x he hp hs

/-- STAY from another link than the serving antenna's is NOT OWNER (R125). -/
theorem doStay_of_foreign {l : LinkId} {h : HeadsetId} {s : State} {i : RosterIx} {r : Record} {x : Entry}
    {v : Serving} (hv : validHeadset h = true) (hf : s.findHeadset h = some i) (hr : s.rec? i = some r)
    (he : s.entryOf? r = some x) (hp : x.phase = .moving) (hs : r.state = .handing) (hsv : r.serving = some v)
    (ho : s.owner v.antenna ≠ some l) : doStay l h s = .refuse s .notOwner := by
  unfold doStay
  rw [withHeadset_of_known hv hf hr]
  simp [he, hp, hs, hsv, ho]

/-- Settles O9: each request is refused by the check that its law above names, and a refusal leaves only its reply. -/
theorem headsetRequestsAreChecked : Obligations.HeadsetRequestsAreChecked := by
  intro s l tag h b set hq
  refine ⟨fun hv => ?invalid, fun hb => ?high, fun hv hf => ?unknown, fun i r hv hf hr => ?known⟩
  case invalid =>
    have refused := fun m act => withHeadset_of_invalid hv m s act
    have arrived : doArrived l h b s = .refuse s .badField := by
      by_cases hb : 63 < b.toNat
      · exact doArrived_of_high hb l h s
      · obtain ⟨a, rfl⟩ := exists_antenna_of_low (not_lt.1 hb)
        exact (doArrived_byteOf l h a s).trans (refused ..)
    exact ⟨request_of_refuse hq tag (.detach h) 0x09 rfl (refused ..),
      request_of_refuse hq tag (.listen h set) 0x0B rfl (refused ..),
      request_of_refuse hq tag (.key h 0x01) 0x0C rfl ((doKey_on ..).trans (refused ..)),
      request_of_refuse hq tag (.key h 0x00) 0x0C rfl ((doKey_off ..).trans (refused ..)),
      request_of_refuse hq tag (.ready h) 0x10 rfl (refused ..),
      request_of_refuse hq tag (.decline h) 0x11 rfl (refused ..),
      request_of_refuse hq tag (.arrived h b) 0x12 rfl arrived,
      request_of_refuse hq tag (.stay h) 0x13 rfl (refused ..),
      request_of_refuse hq tag (.queryHeadset h) 0x18 rfl (refused ..)⟩
  case high => exact request_of_refuse hq tag (.arrived h b) 0x12 rfl (doArrived_of_high hb l h s)
  case unknown =>
    have refused := fun m act => withHeadset_of_unknown hv hf m act
    refine ⟨request_of_refuse hq tag (.detach h) 0x09 rfl (refused ..),
      request_of_refuse hq tag (.listen h set) 0x0B rfl (refused ..),
      request_of_refuse hq tag (.key h 0x01) 0x0C rfl ((doKey_on ..).trans (refused ..)),
      request_of_refuse hq tag (.key h 0x00) 0x0C rfl ((doKey_off ..).trans (refused ..)),
      request_of_refuse hq tag (.ready h) 0x10 rfl (refused ..),
      request_of_refuse hq tag (.decline h) 0x11 rfl (refused ..), fun hb => ?_,
      request_of_refuse hq tag (.stay h) 0x13 rfl (refused ..),
      request_of_refuse hq tag (.queryHeadset h) 0x18 rfl (refused ..)⟩
    obtain ⟨a, rfl⟩ := exists_antenna_of_low hb
    exact request_of_refuse hq tag (.arrived h _) 0x12 rfl ((doArrived_byteOf l h a s).trans (refused ..))
  case known =>
    have known := fun m act => withHeadset_of_known hv hf hr m act
    have arrived : ∀ (a : AntennaId) {status : Status}, arrivedAt l r a s = .refuse s status →
        exec (.arrived l tag h (byteOf a.val)) s = .next (s.replied l 0x12 tag status []) := fun a _ ha =>
      request_of_refuse hq tag (.arrived h _) 0x12 rfl (((doArrived_byteOf l h a s).trans (known ..)).trans ha)
    refine ⟨fun hx => ?_, fun x he hp ho => ?_, fun a hx => ?_, fun hx => ?_, fun v hsv ho => ⟨?_, fun ha => ?_⟩⟩
    · have stale := answerPrepare_of_stale hv hf hr hx
      exact ⟨request_of_refuse hq tag (.ready h) 0x10 rfl (stale _),
        request_of_refuse hq tag (.decline h) 0x11 rfl (stale _)⟩
    · refine arrived _ ?_
      simp [arrivedAt, movingToward_of_moving he hp, ho]
    · have hm := arrivedAt_of_not_moving (l := l) (movingToward_eq_none hx)
      refine ⟨fun v hsv ha hs => arrived a ?_, fun hn => arrived a ?_⟩
      · rw [hm, if_pos ⟨hs, servedAt_iff.2 ⟨v, hsv, ha⟩⟩]
      · rw [hm, if_neg]
        rintro ⟨hs, hat⟩
        obtain ⟨v, hsv, ha⟩ := servedAt_iff.1 hat
        exact hn.elim hs fun hne => hne v hsv ha
    · exact request_of_refuse hq tag (.stay h) 0x13 rfl (doStay_of_stale hv hf hr hx)
    · rintro ⟨x, he, hp⟩ hs
      exact request_of_refuse hq tag (.stay h) 0x13 rfl (doStay_of_foreign hv hf hr he hp hs hsv ho)
    · have foreign := mayKey_of_foreign hsv ho ha
      exact ⟨request_of_refuse hq tag (.key h 0x01) 0x0C rfl
          (((doKey_on ..).trans (known ..)).trans (if_pos foreign)),
        request_of_refuse hq tag (.key h 0x00) 0x0C rfl
          (((doKey_off ..).trans (known ..)).trans (if_pos foreign))⟩

end Sys2Proof.Machine
end

section
/-! Which record eviction chooses and which one is FREE (R6, R7), and the checks of ATTACH (R8). -/

namespace Sys2Proof.Machine

/-! ### The lowest FREE record (R6) -/

/-- The first of the numbers below n with a property is the least one that has it. -/
theorem find?_ascending {n : Nat} {p : Fin n → Bool} {i : Fin n} (hi : p i = true)
    (hlt : ∀ j, j < i → p j = false) : (ascending n).find? p = some i := by
  cases hf : (ascending n).find? p with
  | none => exact absurd hi (List.find?_eq_none.1 hf i (mem_ascending i))
  | some j =>
    obtain ⟨hj, before, after, hl, hb⟩ := List.find?_eq_some_iff_append.1 hf
    have hmem := mem_ascending i
    have hord := ascending_pairwise n
    rw [hl] at hmem hord
    rcases List.mem_append.1 hmem with h | h
    · exact absurd hi (by simpa using hb i h)
    · rcases List.mem_cons.1 h with rfl | h
      · rfl
      · have hji : j < i := (List.pairwise_cons.1 (List.pairwise_append.1 hord).2.1).1 i h
        exact absurd hj (by simp [hlt j hji])

/-- No record is FREE exactly where every index holds one (R6). -/
theorem freeIndex?_eq_none {s : State} : freeIndex? s = none ↔ ∀ j, s.rec? j ≠ none := by
  simp [freeIndex?, rosterOrder, mem_ascending, Option.ne_none_iff_exists']

/-- A FREE record below which none is FREE is the one taken (R6). -/
theorem freeIndex?_eq_some {s : State} {i : RosterIx} (hi : s.rec? i = none) (hlt : ∀ j, j < i → s.rec? j ≠ none) :
    freeIndex? s = some i :=
  find?_ascending (by simp [hi]) fun j hj => by simpa [Option.isSome_iff_ne_none] using hlt j hj

/-! ### The record that eviction chooses (R7) -/

theorem adriftCount_eq_some {s : State} {i : RosterIx} {n : Nat} :
    adriftCount s i = some n ↔ ∃ r, s.rec? i = some r ∧ r.state = .adrift ∧ timerCount r.retain = n := by
  unfold adriftCount
  cases s.rec? i <;> simp

theorem adriftCount_eq_none {s : State} {i : RosterIx} :
    adriftCount s i = none ↔ ∀ r, s.rec? i = some r → r.state ≠ .adrift := by
  unfold adriftCount
  cases s.rec? i <;> simp

/-- Among some indexes there is none to evict exactly where none of them is ADRIFT. -/
theorem evictionChoice_eq_none {s : State} : ∀ {l : List RosterIx},
    evictionChoice s l = none ↔ ∀ j ∈ l, adriftCount s j = none
  | [] => by simp [evictionChoice]
  | i :: rest => by
    rw [List.forall_mem_cons, ← evictionChoice_eq_none (l := rest), evictionChoice]
    cases adriftCount s i with
    | none => simp
    | some n =>
      rcases evictionChoice s rest with _ | ⟨j, m⟩
      · simp
      · by_cases hm : m ≤ n <;> simp [hm]

/-- Among some indexes in roster order the choice is ADRIFT, and every other ADRIFT one has a smaller retain count, or
the same count and no lower index (R7). -/
theorem evictionChoice_eq_some {s : State} : ∀ {l : List RosterIx} {i : RosterIx} {n : Nat}, l.Pairwise (· < ·) →
    evictionChoice s l = some (i, n) →
    i ∈ l ∧ adriftCount s i = some n ∧ ∀ j ∈ l, ∀ m, adriftCount s j = some m → m ≤ n ∧ (m = n → i ≤ j)
  | [], _, _, _, h => by simp [evictionChoice] at h
  | k :: rest, i, n, hord, h => by
    obtain ⟨hk, hrest⟩ := List.pairwise_cons.1 hord
    rw [evictionChoice] at h
    rcases hc : adriftCount s k with _ | c <;> rcases he : evictionChoice s rest with _ | ⟨j, m⟩ <;>
      simp only [hc, he, reduceCtorEq] at h
    case none.some =>
      obtain ⟨hmem, hcount, hmax⟩ := evictionChoice_eq_some hrest (he.trans h)
      exact ⟨List.mem_cons_of_mem _ hmem, hcount, List.forall_mem_cons.2 ⟨fun m hm => by simp [hc] at hm, hmax⟩⟩
    case some.none =>
      obtain ⟨rfl, rfl⟩ := Prod.mk.inj (Option.some.inj h)
      refine ⟨List.mem_cons_self .., hc, List.forall_mem_cons.2 ⟨fun m hm => ?_, fun j hj m hm => ?_⟩⟩
      · rw [hc] at hm
        exact ⟨(Option.some.inj hm).ge, fun _ => le_rfl⟩
      · rw [evictionChoice_eq_none.1 he j hj] at hm
        cases hm
    case some.some =>
      obtain ⟨hmem, hcount, hmax⟩ := evictionChoice_eq_some hrest he
      split at h <;> obtain ⟨rfl, rfl⟩ := Prod.mk.inj (Option.some.inj h)
      · next hle =>
        refine ⟨List.mem_cons_self .., hc, List.forall_mem_cons.2 ⟨fun q hq => ?_, fun j' hj q hq => ?_⟩⟩
        · rw [hc] at hq
          exact ⟨(Option.some.inj hq).ge, fun _ => le_rfl⟩
        · exact ⟨(hmax j' hj q hq).1.trans hle, fun _ => (hk j' hj).le⟩
      · next hlt =>
        refine ⟨List.mem_cons_of_mem _ hmem, hcount, List.forall_mem_cons.2 ⟨fun q hq => ?_, hmax⟩⟩
        rw [hc] at hq
        obtain rfl := Option.some.inj hq
        exact ⟨(not_le.1 hlt).le, fun e => absurd e.ge hlt⟩

/-- No record can be evicted exactly where none is ADRIFT (R7). -/
theorem victim?_eq_none {s : State} : victim? s = none ↔ ∀ j q, s.rec? j = some q → q.state ≠ .adrift := by
  simp [victim?, evictionChoice_eq_none, rosterOrder, mem_ascending, adriftCount_eq_none]

/-- Settles O17, by induction on the indexes that the choice looks at. -/
theorem evictionChoosesTheLongestAdrift : Obligations.EvictionChoosesTheLongestAdrift := by
  refine fun s => ⟨fun i hi => ?_, victim?_eq_none⟩
  obtain ⟨⟨i, n⟩, he, rfl⟩ := Option.map_eq_some_iff.1 hi
  obtain ⟨-, hcount, hmax⟩ := evictionChoice_eq_some (ascending_pairwise 192) he
  obtain ⟨r, hr, hs, rfl⟩ := adriftCount_eq_some.1 hcount
  exact ⟨r, hr, hs, fun j q hq ha => hmax j (mem_ascending j) _ (adriftCount_eq_some.2 ⟨q, hq, ha, rfl⟩)⟩

/-! ### The class code (R2) -/

theorem classOf?_of_low {b : Byte} (hb : b.toNat ≤ 15) : ∃ code prof, classOf? b = some (code, prof) := by
  unfold classOf?
  split <;> simp [hb]

/-- A class code from 6 to 15 is class 3. -/
theorem classOf?_of_reserved {b : Byte} (hl : 6 ≤ b.toNat) (hh : b.toNat ≤ 15) :
    classOf? b = some (some .p3, .p3) := by
  unfold classOf?
  split
  case h_7 => exact if_pos hh
  all_goals omega

theorem classOf?_of_high {b : Byte} (hb : 15 < b.toNat) : classOf? b = none := by
  unfold classOf?
  split
  case h_7 => exact if_neg (by omega)
  all_goals omega

/-! ### The checks of ATTACH (R8) -/

/-- An invalid headset ID, antenna or class code is BAD FIELD (R8). -/
theorem doAttach_of_badField {h : HeadsetId} {b cls : Byte}
    (hbad : validHeadset h = false ∨ 63 < b.toNat ∨ 15 < cls.toNat) (l : LinkId) (set : ListenSet) (level : Byte)
    (s : State) : doAttach l h b cls set level s = .refuse s .badField := by
  unfold doAttach
  rcases hbad with hv | hb | hc
  · rw [hv]
  · rw [antennaOf?_of_high hb]; split <;> simp_all
  · rw [classOf?_of_high hc]; split <;> simp_all

section
variable {l : LinkId} {h : HeadsetId} {a : AntennaId} {cls : Byte} {code : Option Profile} {prof : Profile} {s : State}
  (hv : validHeadset h = true) (hc : classOf? cls = some (code, prof))
include hv hc

/-- ATTACH by another link than the antenna's owner is NOT OWNER (R8). -/
theorem doAttach_of_foreign (ho : s.owner a ≠ some l) (set : ListenSet) (level : Byte) :
    doAttach l h (byteOf a.val) cls set level s = .refuse s .notOwner := by
  simp [doAttach, hv, hc, antennaOf?_byteOf, ho]

variable (ho : s.owner a = some l)
include ho

/-- ATTACH of an unknown headset by the owner of the antenna (R8, R9). -/
theorem doAttach_of_unknown (hf : s.findHeadset h = none) (set : ListenSet) (level : Byte) :
    doAttach l h (byteOf a.val) cls set level s =
      if (s.ant a).state ≠ .active then .refuse s .wrongState else attachNew h a code prof set level s := by
  simp [doAttach, hv, hc, antennaOf?_byteOf, ho, hf]

/-- ATTACH of a known headset by the owner of the antenna (R8, R10, R11). -/
theorem doAttach_of_known {i : RosterIx} {r : Record} (hf : s.findHeadset h = some i) (hr : s.rec? i = some r)
    (set : ListenSet) (level : Byte) :
    doAttach l h (byteOf a.val) cls set level s =
      if r.state ≠ .adrift then attachSeated i r a s
      else if (s.ant a).state ≠ .active then .refuse s .wrongState
      else attachAdrift i r a code prof set level s := by
  simp [doAttach, hv, hc, antennaOf?_byteOf, ho, hf, hr]

end

/-- With no record FREE and none to evict, ATTACH is ROSTER FULL (R9). -/
theorem attachNew_of_full {s : State} (hf : freeIndex? s = none) (hv : victim? s = none) (h : HeadsetId)
    (a : AntennaId) (code : Option Profile) (prof : Profile) (set : ListenSet) (level : Byte) :
    attachNew h a code prof set level s = .refuse s .rosterFull := by
  simp [attachNew, hf, hv]

/-- With a record to take but no seat that fits, ATTACH is FRAME FULL (R9). -/
theorem attachNew_of_no_seat {s : State} {a : AntennaId} {prof : Profile}
    (hf : ¬ (freeIndex? s = none ∧ victim? s = none)) (hp : place? s a prof.listenBurst = none) (h : HeadsetId)
    (code : Option Profile) (set : ListenSet) (level : Byte) :
    attachNew h a code prof set level s = .refuse s .frameFull := by
  simp [attachNew, hf, hp]

/-- Settles O16: the checks of ATTACH in their order, and the answer to a headset that holds a seat. -/
theorem attachIsChecked : Obligations.AttachIsChecked := by
  intro s l tag h b cls set level hq
  have answer : ∀ {status fields}, doAttach l h b cls set level s = { state := s, status := status, fields := fields } →
      exec (.attach l tag h b cls set level) s = .next (s.replied l 0x08 tag status fields) := fun hp =>
    request_of_perform hq tag (.attach h b cls set level) 0x08 rfl hp
  refine ⟨fun hbad => answer (doAttach_of_badField hbad l set level s), fun hv hcl a hb => ?_⟩
  subst hb
  obtain ⟨code, prof, hc⟩ := classOf?_of_low hcl
  refine ⟨fun ho => answer (doAttach_of_foreign hv hc ho set level),
    fun ho => ⟨?seated, ?down, ?rosterFull, ?frameFull⟩⟩
  case seated =>
    intro i r v hf hr hs hsv
    refine answer ?_
    rw [doAttach_of_known hv hc ho hf hr, if_pos hs]
    simp only [attachSeated, hsv, seatFields]
  case down =>
    rintro (hf | ⟨i, r, hf, hr, hs⟩) hd <;> refine answer ?_
    · rw [doAttach_of_unknown hv hc ho hf, if_pos hd]
      rfl
    · rw [doAttach_of_known hv hc ho hf hr, if_neg (not_not.2 hs), if_pos hd]
      rfl
  case rosterFull =>
    intro hf hup hall
    refine answer ?_
    rw [doAttach_of_unknown hv hc ho hf, if_neg (not_not.2 hup)]
    refine attachNew_of_full (freeIndex?_eq_none.2 fun j hj => ?_) (victim?_eq_none.2 fun j q hj => ?_) ..
    · obtain ⟨r, hr, -⟩ := hall j
      simp [hj] at hr
    · obtain ⟨r, hr, hs⟩ := hall j
      obtain rfl := Option.some.inj (hj.symm.trans hr)
      exact hs
  case frameFull =>
    rintro code' prof' hc' hf hup ⟨j, hj⟩ hp
    refine answer ?_
    rw [doAttach_of_unknown hv hc' ho hf, if_neg (not_not.2 hup)]
    refine attachNew_of_no_seat (fun ⟨hfree, hvictim⟩ => ?_) hp ..
    obtain ⟨r, hr⟩ := Option.ne_none_iff_exists'.1 (freeIndex?_eq_none.1 hfree j)
    exact victim?_eq_none.1 hvictim j r hr (hj r hr)

end Sys2Proof.Machine
end

section
/-! QUERY HEADSET and LISTEN, and the reset state. -/

namespace Sys2Proof.Machine

/-! ### QUERY HEADSET (R19, R167) -/

/-- The handoff bytes of a QUERY HEADSET reply: phase, target and reserved seat of the record's entry (R167). -/
def handoffBytes (x : Option Entry) : List Byte :=
  match x with
  | none => [0, 0xFF, 0xFF, 0xFF]
  | some x =>
    [match x.phase with | .queued => 1 | .preparing => 2 | .moving => 3, byteOf x.target.val] ++
      (match x.reserved with | none => [0xFF, 0xFF] | some (g, n) => [byteOf g.val, byteOf n.val])

theorem handoffBytes_eq (x : Option Entry) :
    [(x.map fun y => y.phase.code).getD 0, byteOrAbsent (x.map fun y => y.target.val),
      byteOrAbsent ((x.bind Entry.reserved).map fun p => p.1.val),
      byteOrAbsent ((x.bind Entry.reserved).map fun p => p.2.val)] = handoffBytes x := by
  cases x with
  | none => rfl
  | some x =>
    rcases hr : x.reserved with _ | ⟨g, n⟩ <;> cases hp : x.phase <;>
      simp [handoffBytes, hr, hp, Phase.code, byteOrAbsent]

/-- The flags byte of a candidate entry (R167). -/
theorem candidateFlags_eq (blocked : Bool) (target : Prop) [Decidable target] :
    byteOf ((if blocked then 1 else 0) + if target then 2 else 0) =
      (if blocked then 1 else 0) + if target then 2 else 0 := by
  cases blocked <;> by_cases target <;> simp [*] <;> rfl

/-- The reply's bytes in the groups of R167. -/
theorem headsetFields_eq (s : State) (i : RosterIx) (r : Record) :
    headsetFields s i r =
      [byteOf i.val, r.state.code, byteOf ((r.classCode.map Profile.number).getD 0), byteOf r.profile.number]
        ++ bytes16 r.listen ++ [r.key.code]
        ++ [byteOrAbsent (r.serving.map fun v => v.antenna.val), byteOrAbsent (r.serving.map fun v => v.group.val),
            byteOrAbsent (r.serving.map fun v => v.seat.val)]
        ++ bytesOfNat16 r.f16s ++ [byteOf (if r.weak then 1 else 0), byteOrAbsent (r.serveLost.map Timer.count)]
        ++ wordOrAbsent (r.retain.map Timer.count) ++ handoffBytes (s.entryOf? r) ++ [byteOf r.candidates.length]
        ++ r.candidates.flatMap (candidateBytes s r) := by
  rw [← handoffBytes_eq]
  simp [headsetFields]

/-- Settles O20: the reply's bytes, field by field. -/
theorem queryHeadsetReportsTheRecord : Obligations.QueryHeadsetReportsTheRecord := by
  intro s l tag h i r hq hv hf hr
  dsimp only
  refine request_of_perform hq tag (.queryHeadset h) 0x18 rfl ?_
  refine (withHeadset_of_known hv hf hr ..).trans (congrArg (Answer.mk s .ok) ?_)
  have list : r.candidates.flatMap (candidateBytes s r) = r.candidates.flatMap fun c =>
      [byteOf c.antenna.val] ++ bytesOfNat16 c.f16 ++
        [byteOf c.dwell, (if c.blocked then 1 else 0) + (if s.heldTarget r = some c.antenna then 2 else 0)] := by
    congr 1
    funext c
    rw [candidateBytes, candidateFlags_eq]
    rfl
  have cls : byteOf ((r.classCode.map Profile.number).getD 0) =
      match r.classCode with | none => 0 | some p => byteOf p.number := by
    cases r.classCode <;> rfl
  have number : ∀ p : Profile, byteOf p.number =
      match p with | .p1 => (1 : Byte) | .p2 => 2 | .p3 => 3 | .p4 => 4 | .p5 => 5 := fun p => by cases p <;> rfl
  have serving : [byteOrAbsent (r.serving.map fun v => v.antenna.val),
      byteOrAbsent (r.serving.map fun v => v.group.val), byteOrAbsent (r.serving.map fun v => v.seat.val)] =
      match r.serving with
      | none => [0xFF, 0xFF, 0xFF]
      | some v => [byteOf v.antenna.val, byteOf v.group.val, byteOf v.seat.val] := by
    cases r.serving <;> rfl
  have weak : byteOf (if r.weak then 1 else 0) = if r.weak then 1 else 0 := by cases r.weak <;> rfl
  have serveLost : byteOrAbsent (r.serveLost.map Timer.count) =
      match r.serveLost with | none => 0xFF | some t => byteOf t.count := by
    cases r.serveLost <;> rfl
  have retain : wordOrAbsent (r.retain.map Timer.count) =
      match r.retain with | none => [0xFF, 0xFF] | some t => bytesOfNat16 t.count := by
    cases r.retain <;> rfl
  rw [headsetFields_eq, list, cls, serving, weak, serveLost, retain]
  simp only [number]
  rfl

/-! ### LISTEN (R18) -/

/-- The antenna with its carriage recounted for a headset whose listen set changes (R18, R58, R59). -/
def Antenna.recounted (old new : ListenSet) (x : Antenna) : Antenna :=
  { x with
    planDue := true
    carriage := Vector.ofFn fun c =>
      if old.getLsbD c.val && !new.getLsbD c.val then x.carriage.get c - 1
      else if new.getLsbD c.val && !old.getLsbD c.val then x.carriage.get c + 1
      else x.carriage.get c }

/-- Each channel that only the old set holds is lowered by 1, each that only the new set holds raised by 1 (R58). -/
theorem raiseCarriage_lowerCarriage (c : Vector Nat 16) (old new : ListenSet) :
    raiseCarriage (lowerCarriage c (old &&& ~~~new)) (new &&& ~~~old) = Vector.ofFn fun ch =>
      if old.getLsbD ch.val && !new.getLsbD ch.val then c.get ch - 1
      else if new.getLsbD ch.val && !old.getLsbD ch.val then c.get ch + 1
      else c.get ch := by
  ext ch hch
  simp only [raiseCarriage, lowerCarriage, Vector.getElem_mapIdx, Vector.getElem_ofFn, BitVec.getLsbD_and,
    BitVec.getLsbD_not, hch, decide_true, Bool.true_and, Vector.get_eq_getElem]
  cases old.getLsbD ch <;> cases new.getLsbD ch <;> rfl

theorem changeCarriage_eq (a : AntennaId) (old new : ListenSet) (s : State) :
    changeCarriage a old new s = s.modAnt a (Antenna.recounted old new) := by
  unfold changeCarriage Antenna.recounted State.setCarriage
  rw [raiseCarriage_lowerCarriage]
  rfl

/-- The state with the carriage of one antenna, if there is one, recounted. -/
def State.recountedAt (s : State) (a : Option AntennaId) (old new : ListenSet) : State :=
  match a with
  | none => s
  | some a => s.modAnt a (Antenna.recounted old new)

theorem State.recountedAt_rec? (s : State) (a : Option AntennaId) (old new : ListenSet) (i : RosterIx) :
    (s.recountedAt a old new).rec? i = s.rec? i := by
  cases a <;> rfl

/-- A recount does not change which candidate a record's entry reserves a seat at. -/
theorem State.recountedAt_targetOf? (s : State) (a : Option AntennaId) (old new : ListenSet) (r : Record) :
    (s.recountedAt a old new).targetOf? r = s.targetOf? r := by
  cases a <;> rfl

/-- Another listen set is recounted at the serving antenna, then at the antenna of a reserved seat, and stored (R18). -/
theorem changeListen_of_ne {i : RosterIx} {r : Record} {new : ListenSet} {s : State} (hne : new ≠ r.listen)
    (hr : s.rec? i = some r) :
    changeListen i r new s =
      ((s.recountedAt (r.serving.map Serving.antenna) r.listen new).recountedAt (s.targetOf? r) r.listen new).setRec i
        (some { r with listen := new }) := by
  have serving : (match r.serving with | none => s | some v => changeCarriage v.antenna r.listen new s) =
      s.recountedAt (r.serving.map Serving.antenna) r.listen new := by
    cases r.serving with
    | none => rfl
    | some v => exact changeCarriage_eq ..
  have target : ∀ t : State, (match t.targetOf? r with | none => t | some a => changeCarriage a r.listen new t) =
      t.recountedAt (t.targetOf? r) r.listen new := fun t => by
    cases t.targetOf? r with
    | none => rfl
    | some a => exact changeCarriage_eq ..
  calc changeListen i r new s
    _ = ((s.recountedAt (r.serving.map Serving.antenna) r.listen new).recountedAt
          ((s.recountedAt (r.serving.map Serving.antenna) r.listen new).targetOf? r) r.listen new).modRec i
            fun r => { r with listen := new } := by
      rw [← target, ← serving]
      exact if_neg hne
    _ = _ := by
      rw [State.recountedAt_targetOf?]
      exact State.modRec_of_some (by rw [State.recountedAt_rec?, State.recountedAt_rec?, hr]) _

/-- Settles O19: carriage is recounted at the serving antenna, then at the antenna of a reserved seat. -/
theorem listenReplacesTheSet : Obligations.ListenReplacesTheSet := by
  intro s l tag h new i r hq hv hf hr
  have answer : ∀ {t : State}, changeListen i r new s = t →
      exec (.listen l tag h new) s = .next (t.replied l 0x0B tag .ok []) := fun ht =>
    request_of_perform hq tag (.listen h new) 0x0B rfl
      ((withHeadset_of_known hv hf hr ..).trans (congrArg (Answer.mk · .ok []) ht))
  refine ⟨fun he => answer (if_pos he), fun hne => ?_⟩
  have changed := changeListen_of_ne hne hr
  refine ⟨fun v hsv ht => answer ?_, fun v t hsv ht => answer ?_, fun t hsv ht => answer ?_,
    fun hsv ht => answer ?_⟩ <;> rw [changed, hsv, ht] <;> rfl

/-! ### Reset (R180) -/

theorem reset_rec? (i : RosterIx) : State.reset.rec? i = none := by simp [State.reset, State.rec?]

theorem reset_ant (a : AntennaId) : State.reset.ant a = Antenna.down := by simp [State.reset, State.ant]

theorem reset_link (l : LinkId) : State.reset.link l = Link.afterReset := by simp [State.reset, State.link]

/-- Settles O60: after reset every record is FREE, every antenna DOWN, every link empty and the table empty. -/
theorem resetMeetsTheInvariants : Obligations.ResetMeetsTheInvariants := by
  refine ⟨by decide, fun l => ?links, fun q => ?params, fun a => ?airtime, by decide, fun a => ?queues,
    fun i r hr => ?levels, fun i r hr => ?counts, fun x hx => ?entries⟩
  case links => simp [reset_link, Link.afterReset]
  case params => cases q <;> decide
  case airtime => simp [reset_ant, Antenna.down]
  case queues => simp [reset_ant, Antenna.down]
  case levels => simp [reset_rec?] at hr
  case counts => simp [reset_rec?] at hr
  case entries => simp [State.reset] at hx

end Sys2Proof.Machine
end

section
/-! What the roster's shared operations do, in the terms of Safety.lean: a WAITING headset leaves its queue, a serving
seat is released, a headset goes ADRIFT, an entry is torn down. -/

namespace Sys2Proof.Machine

/-! ### The queue and the serving seat -/

@[simp] theorem State.queueLeft_rec? (s : State) (i : RosterIx) (r : Record) (j : RosterIx) :
    (s.queueLeft i r).rec? j = s.rec? j := by
  unfold State.queueLeft
  split <;> rfl

/-- A headset without a serving seat waits in no queue (R70). -/
theorem State.queueLeft_of_unserved {s : State} {i : RosterIx} {r : Record} (h : r.serving = none) :
    s.queueLeft i r = s := by
  unfold State.queueLeft
  split
  · next hv => simp [h] at hv
  · rfl

/-- A headset that is not WAITING leaves no queue (R70). -/
theorem State.queueLeft_of_idle {s : State} {i : RosterIx} {r : Record} (h : r.key ≠ .waiting) :
    s.queueLeft i r = s := by
  unfold State.queueLeft
  split
  · next hk _ => exact absurd hk h
  · rfl

/-- The queue that a headset leaves, if it waits there (R71). -/
theorem State.queueLeft_of_served {s : State} {i : RosterIx} {r : Record} {v : Serving} (h : r.serving = some v) :
    s.queueLeft i r = s.modAnt v.antenna fun x =>
      { x with queue := if r.key = .waiting then x.queue.filter (fun j => j != i) else x.queue } := by
  unfold State.queueLeft
  rw [h]
  cases hk : r.key
  case waiting => rfl
  all_goals exact (State.setAnt_ant s v.antenna).symm

theorem releaseServing_of_unserved {r : Record} (h : r.serving = none) (s : State) : releaseServing r s = s := by
  simp [releaseServing, h]

/-- A record's serving seat is released (R53). -/
theorem releaseServing_of_served {r : Record} {v : Serving} (h : r.serving = some v) (s : State) :
    releaseServing r s = s.seatReleased v.antenna v.group v.seat r.listen := by
  unfold releaseServing
  rw [h]
  exact releaseSeat_eq ..

/-- A seat released at an antenna where nothing waits (R53, R36). -/
theorem State.seatReleased_of_empty {a : AntennaId} {s : State} (h : (s.ant a).queue = []) (g : GroupIx) (n : SeatNo)
    (listen : ListenSet) :
    s.seatReleased a g n listen = clearBlocked a (s.modAnt a (Antenna.vacated s.params g n listen)) :=
  (releaseSeat_eq ..).symm.trans (releaseSeat_of_empty h)

/-- A headset leaves its queue and its seat, and nothing waits there any more: the antenna written out whole. -/
theorem queueLeft_vacated {s : State} {i : RosterIx} {r : Record} {v : Serving} (hsv : r.serving = some v)
    (he : (if r.key = .waiting then (s.ant v.antenna).queue.filter (fun j => j != i) else (s.ant v.antenna).queue) = [])
    (p : Params) (g : GroupIx) (n : SeatNo) (listen : ListenSet) :
    ((s.queueLeft i r).ant v.antenna).queue = [] ∧
      (s.queueLeft i r).modAnt v.antenna (Antenna.vacated p g n listen) =
        s.modAnt v.antenna fun x => { x.vacated p g n listen with queue := [] } := by
  rw [State.queueLeft_of_served hsv, State.modAnt_modAnt]
  refine ⟨by simpa using he, ?_⟩
  unfold State.modAnt
  congr 1
  simp only [Function.comp, he, Antenna.vacated, Antenna.withPlan]

theorem State.queueLeft_params (s : State) (i : RosterIx) (r : Record) : (s.queueLeft i r).params = s.params := by
  unfold State.queueLeft
  split <;> rfl

/-! ### Going ADRIFT (R13) -/

/-- Step 1 of entry into ADRIFT: an ON or WAITING key is PENDING, and a WAITING headset has left its queue (R13). -/
theorem keyAtLoss_eq {i : RosterIx} {r : Record} {s : State} (hr : s.rec? i = some r) :
    keyAtLoss i r s = (s.queueLeft i r).setRec i (some
      { r with key := if r.key = .on ∨ r.key = .waiting then .pending else r.key }) := by
  have kept : ∀ k, r.key = k → k ≠ .waiting →
      s = (s.queueLeft i r).setRec i (some { r with key := k }) := fun k hk hw => by
    subst hk
    rw [State.queueLeft_of_idle hw, ← hr, State.setRec_rec?]
  cases hk : r.key <;> simp only [keyAtLoss, hk, reduceCtorEq, or_self, or_true, true_or, if_true, if_false]
  case off => exact kept _ hk (by decide)
  case pending => exact kept _ hk (by decide)
  case on =>
    rw [State.queueLeft_of_idle (by simp [hk])]
    exact State.modRec_of_some hr _
  case waiting => exact State.modRec_of_some (by rw [leaveOwnQueue_eq, State.queueLeft_rec?, hr]) _

/-- Entry into ADRIFT with the serving seat released (R13). -/
theorem enterAdrift_released {s : State} {i : RosterIx} {r : Record} {v : Serving} (hr : s.rec? i = some r)
    (hv : r.serving = some v) :
    enterAdrift .released i s =
      (((s.queueLeft i r).setRec i (some
        { r with key := if r.key = .on ∨ r.key = .waiting then .pending else r.key })).seatReleased
          v.antenna v.group v.seat r.listen).modRec i fun q =>
        { q with state := .adrift, serving := none, serveLost := none, weak := false
                 retain := some { count := 0, due := false } } := by
  unfold enterAdrift
  simp only [hr, if_true, keyAtLoss_eq hr, releaseServing_of_served hv]
  rfl

/-- Entry into ADRIFT from an antenna where no other key waits: the state written out whole (R13, R53). -/
theorem enterAdrift_released_of_empty {s : State} {i : RosterIx} {r : Record} {v : Serving} (hr : s.rec? i = some r)
    (hv : r.serving = some v)
    (he : (if r.key = .waiting then (s.ant v.antenna).queue.filter (fun j => j != i)
      else (s.ant v.antenna).queue) = []) :
    enterAdrift .released i s =
      (clearBlocked v.antenna (s.modAnt v.antenna fun x =>
        { x.vacated s.params v.group v.seat r.listen with queue := [] })).setRec i
          (some (r.unblock v.antenna).lost) := by
  obtain ⟨hq, hvac⟩ := queueLeft_vacated hv he s.params v.group v.seat r.listen
  rw [enterAdrift_released hr hv, State.seatReleased_of_empty (by exact hq), State.setRec_params,
    State.queueLeft_params]
  rw [State.modAnt, State.setRec_setAnt, clearBlocked_setRec, ← hvac, State.setRec_ant, Option.map_some]
  rw [State.modRec_of_some (State.rec?_setRec_self ..), State.setRec_setRec]
  rfl

/-! ### Aborts without return (R5, R130) -/

/-- What tearing down an entry leaves: the table without the entry, every antenna's owner, every record's face but for
the headset's own, which is unlinked from the entry. -/
theorem State.torn_eq (s : State) (x : Entry) (drop : Bool) :
    ∃ t : State, (∀ j, (t.rec? j).map Record.face = (s.rec? j).map Record.face) ∧
      s.torn x drop = ({ t with handoffs := s.handoffs.filter fun y => y.num != x.num } : State).modRec x.headset
        (Record.unlinked x) := by
  unfold State.torn
  split
  · cases drop
    · next g n r _ _ =>
      obtain ⟨hh, -, hf⟩ := seatReleased_kept s x.target g n r.listen
      exact ⟨_, hf, by rw [← hh]; rfl⟩
    · exact ⟨s, fun _ => rfl, rfl⟩
  · exact ⟨s, fun _ => rfl, rfl⟩

/-- Tearing down an entry takes it out of the table (R130). -/
theorem State.torn_handoffs (s : State) (x : Entry) (drop : Bool) :
    (s.torn x drop).handoffs = s.handoffs.filter fun y => y.num != x.num := by
  obtain ⟨t, -, he⟩ := s.torn_eq x drop
  rw [he, State.modRec_handoffs]

/-- Tearing down an entry keeps the face of every record but the headset's. -/
theorem State.torn_face (s : State) (x : Entry) (drop : Bool) {j : RosterIx} (hj : x.headset ≠ j) :
    ((s.torn x drop).rec? j).map Record.face = (s.rec? j).map Record.face := by
  obtain ⟨t, hf, he⟩ := s.torn_eq x drop
  rw [he, State.rec?_modRec, if_neg hj]
  exact hf j

/-- Tearing down an entry frees no record and makes none. -/
theorem State.torn_rec?_eq_none {s : State} {x : Entry} {drop : Bool} {j : RosterIx} :
    (s.torn x drop).rec? j = none ↔ s.rec? j = none := by
  obtain ⟨t, hf, he⟩ := s.torn_eq x drop
  have hj : t.rec? j = none ↔ s.rec? j = none := by
    rw [← Option.map_eq_none_iff (f := Record.face), hf, Option.map_eq_none_iff]
  rw [he, State.rec?_modRec]
  split
  · rw [Option.map_eq_none_iff]; exact hj
  · exact hj

/-- Tearing down a record's entry keeps the parameters. -/
theorem torn_params {s : State} {r : Record} {x : Entry} (hx : s.entryOf? r = some x) :
    (s.torn x false).params = s.params := by
  rw [← abortHeld_eq hx]
  exact (abortHeld_rest ..).params

/-! ### Keys applied after a seating (R74) -/

/-- A PENDING key is applied to a record that has just become SETTLED. -/
theorem applyPending_modRec {f : Record → Record} (hf : ∀ r, (f r).state = .settled) (i : RosterIx) (s : State) :
    applyPending i (s.modRec i f) = (s.modRec i f).keyApplied i := by
  cases hr : s.rec? i with
  | none => simp [applyPending, State.keyApplied, hr]
  | some r => exact applyPending_eq (r := f r) (by simp [hr]) (hf r)

end Sys2Proof.Machine
end

section
/-! DETACH, the expiries, and the requests that seat a headset. -/

namespace Sys2Proof.Machine

/-! ### DETACH (R12) -/

/-- The teardown of a record that holds no handoff entry (R12). -/
theorem detachRecord_of_no_entry {i : RosterIx} {r : Record} {s : State} (h : r.handoff = none) :
    detachRecord i r s = (releaseServing r (s.queueLeft i r)).setRec i none := by
  unfold detachRecord
  rw [depthLinkOf_of_none h, abortHeld_of_none h]
  rfl

/-- The teardown of a record that holds a handoff entry, and its depth release (R12, R111). -/
theorem detachRecord_of_entry {i : RosterIx} {r : Record} {s : State} {x : Entry} (hx : s.entryOf? r = some x) :
    detachRecord i r s = depthReleaseFor (s.loweredLink r)
      ((releaseServing r ((s.torn x false).queueLeft i r)).setRec i none) := by
  unfold detachRecord
  rw [depthLinkOf_eq, abortHeld_eq hx]
  rfl

/-- Settles O18: the teardown with and without an entry, of a served and of an ADRIFT record. -/
theorem detachFreesTheRecord : Obligations.DetachFreesTheRecord := by
  intro s l tag h i r hq hv hf hr
  have answer : ∀ {t : State}, detachRecord i r s = t →
      exec (.detach l tag h) s = .next (t.replied l 0x09 tag .ok []) := fun ht =>
    request_of_perform hq tag (.detach h) 0x09 rfl
      ((withHeadset_of_known hv hf hr ..).trans (congrArg (Answer.mk · .ok []) ht))
  refine ⟨fun v hh hsv => answer ?_, fun v hh hsv he => answer ?_, fun v x hx _ hsv => answer ?_,
    fun x hx _ hsv => answer ?_, fun hh hsv => answer ?_⟩
  · rw [detachRecord_of_no_entry hh, releaseServing_of_served hsv]
  · obtain ⟨hempty, hvac⟩ := queueLeft_vacated hsv he s.params v.group v.seat r.listen
    rw [detachRecord_of_no_entry hh, releaseServing_of_served hsv, State.seatReleased_of_empty hempty,
      State.queueLeft_params, hvac]
  · rw [detachRecord_of_entry hx, releaseServing_of_served hsv]
  · rw [detachRecord_of_entry hx, releaseServing_of_unserved hsv, State.queueLeft_of_unserved hsv]
  · rw [detachRecord_of_no_entry hh, releaseServing_of_unserved hsv, State.queueLeft_of_unserved hsv]

/-! ### Expiries (R14, R15, R93, R140) -/

/-- An expiry row while the transmitters have nothing to begin: the timer takes its boundary (R140). -/
theorem whenRunning_transmitAll {s : State} (hrun : s.resetHeld = false) (htx : TransmittersSettled s)
    (f : State → State) : whenRunning s (fun s => f (transmitAll s)) = .next (f s) := by
  rw [whenRunning_of hrun, transmitAll_of_settled htx]

/-- The serve-lost expiry of a record without an entry (R14). -/
theorem serveLostExpiry_of_no_entry {s : State} {i : RosterIx} {r : Record} (hr : s.rec? i = some r)
    (hh : r.handoff = none) : serveLostExpiry i s = enterAdrift .released i s := by
  unfold serveLostExpiry
  simp only [hr, abortHeld_of_none hh, depthLinkOf_of_none hh]
  rfl

/-- The serve-lost expiry of a record with an entry, and its depth release (R5, R14). -/
theorem serveLostExpiry_of_entry {s : State} {i : RosterIx} {r : Record} {x : Entry} (hr : s.rec? i = some r)
    (hx : s.entryOf? r = some x) :
    serveLostExpiry i s = depthReleaseFor (s.loweredLink r) (enterAdrift .released i (s.torn x false)) := by
  unfold serveLostExpiry
  simp only [hr, abortHeld_eq hx, depthLinkOf_eq]

theorem retainExpiry_of_no_entry {s : State} {i : RosterIx} {r : Record} (hr : s.rec? i = some r)
    (hh : r.handoff = none) : retainExpiry i s = s.setRec i none := by
  unfold retainExpiry
  simp only [hr, abortHeld_of_none hh, depthLinkOf_of_none hh]
  rfl

theorem retainExpiry_of_entry {s : State} {i : RosterIx} {r : Record} {x : Entry} (hr : s.rec? i = some r)
    (hx : s.entryOf? r = some x) :
    retainExpiry i s = depthReleaseFor (s.loweredLink r) ((s.torn x false).setRec i none) := by
  unfold retainExpiry
  simp only [hr, abortHeld_eq hx, depthLinkOf_eq]
  rfl

/-- A candidate entry that no QUEUED handoff names leaves the list alone (R92). -/
theorem removeCandidate_of_free {s : State} {i : RosterIx} {r : Record} {a : AntennaId} (hr : s.rec? i = some r)
    (hx : ∀ x, s.entryOf? r = some x → x.phase = .queued → x.target ≠ a) :
    removeCandidate i a s = s.setRec i (some { r with candidates := dropCandidate r.candidates a }) := by
  unfold removeCandidate
  simp only [hr, State.modRec_of_some hr]
  split
  · rfl
  · next x he => exact if_neg fun ⟨hp, ht⟩ => hx x he hp ht

/-- With a candidate entry goes the QUEUED handoff that names it (R92). -/
theorem removeCandidate_of_queued {s : State} {i : RosterIx} {r : Record} {x : Entry} (hr : s.rec? i = some r)
    (he : s.entry? x.num = some x) (hh : r.handoff = some x.num) (hi : x.headset = i) (hp : x.phase = .queued) :
    removeCandidate i x.target s =
      (({ s with handoffs := s.handoffs.filter fun y => y.num != x.num } : State).setRec i
        (some { r with candidates := dropCandidate r.candidates x.target
                       state := .settled, handoff := none })).keyApplied i := by
  subst hi
  unfold removeCandidate
  simp only [hr, State.modRec_of_some hr, entryOf?_of_some hh he, hp, and_self, if_true]
  rw [removeEntry_eq (s := s.setRec _ _) he (State.rec?_setRec_self ..), State.startFailed, setRec_withHandoffs,
    State.setRec_setRec]
  rfl

/-- Settles O5: each expiry row reads its parameter as the due timer takes its boundary, and acts or counts. -/
theorem expiriesTakeTheirEffect : Obligations.ExpiriesTakeTheirEffect := by
  refine ⟨?serveLost, ?serveLostPasses, ?retain, ?retainPasses, ?age, ?agePasses⟩
  case serveLost =>
    intro s i r v t hrun htx hr ht hd hle hsv
    have row : exec (.serveLostExpiry i) s = .next (serveLostExpiry i s) := by
      refine (whenRunning_transmitAll hrun htx (takeServeLost i)).trans (congrArg _ ?_)
      simp [takeServeLost, hr, ht, hd, hle]
    refine ⟨fun hh => ?_, fun hh he => ?_, fun x q w hx _ hq hw => ?_⟩ <;>
      refine row.trans (congrArg _ ?_)
    · rw [serveLostExpiry_of_no_entry hr hh, enterAdrift_released hr hsv]
    · rw [serveLostExpiry_of_no_entry hr hh, enterAdrift_released_of_empty hr hsv he]
    · rw [serveLostExpiry_of_entry hr hx, enterAdrift_released hq hw]
  case serveLostPasses =>
    intro s i r t hrun htx hr ht hd hlt
    refine (whenRunning_transmitAll hrun htx (takeServeLost i)).trans (congrArg _ ?_)
    simp [takeServeLost, hr, ht, hd, not_le.2 hlt, Timer.pass_of_due hd]
  case retain =>
    intro s i r t hrun htx hr ht hd hle
    have row : exec (.retainExpiry i) s = .next (retainExpiry i s) := by
      refine (whenRunning_transmitAll hrun htx (takeRetain i)).trans (congrArg _ ?_)
      simp [takeRetain, hr, ht, hd, hle]
    exact ⟨fun hh => row.trans (congrArg _ (retainExpiry_of_no_entry hr hh)),
      fun x hx _ => row.trans (congrArg _ (retainExpiry_of_entry hr hx))⟩
  case retainPasses =>
    intro s i r t hrun htx hr ht hd hlt
    refine (whenRunning_transmitAll hrun htx (takeRetain i)).trans (congrArg _ ?_)
    simp [takeRetain, hr, ht, hd, not_le.2 hlt, Timer.pass_of_due hd]
  case age =>
    intro s i r c t hrun htx hr hc ht hd hle
    have row : exec (.candidateAgeExpiry i c.antenna) s = .next (removeCandidate i c.antenna s) := by
      refine (whenRunning_transmitAll hrun htx (takeCandidateAge i c.antenna)).trans (congrArg _ ?_)
      unfold takeCandidateAge
      rw [hr]
      exact if_pos (List.any_eq_true.2 ⟨c, hc, by simp [ht, hd, hle]⟩)
    refine ⟨fun hx => row.trans (congrArg _ (removeCandidate_of_free hr hx)), fun x he hh hi hp hta => ?_⟩
    rw [row, ← hta, removeCandidate_of_queued hr he hh hi hp]
    rfl
  case agePasses =>
    intro s i r c t hrun htx hr hc huniq ht hd hlt
    refine (whenRunning_transmitAll hrun htx (takeCandidateAge i c.antenna)).trans (congrArg _ ?_)
    have stays : (r.candidates.any fun d => d.antenna == c.antenna && timerExpires s.params.candAge d.age) = false := by
      rw [List.any_eq_false]
      intro d hdm
      by_cases ha : d.antenna = c.antenna
      · simp [huniq d hdm ha, ht, hd, not_le.2 hlt]
      · simp [ha]
    have passed : mapCandidate r.candidates c.antenna (fun d => { d with age := d.age.map Timer.pass }) =
        r.candidates.map fun d =>
          if d.antenna = c.antenna then { d with age := some { count := t.count + 1, due := false } } else d := by
      refine List.map_congr_left fun d hdm => ?_
      by_cases ha : d.antenna = c.antenna
      · simp [huniq d hdm ha, ht, Timer.pass_of_due hd]
      · rw [if_neg ha, if_neg ha]
    unfold takeCandidateAge
    simp only [hr, stays, passed, Bool.false_eq_true, if_false]

end Sys2Proof.Machine
end

section
/-! The requests that seat a headset: re-admission by LEVELS (R16), and ATTACH of an ADRIFT headset (R11) and of a new
one (R9). -/

namespace Sys2Proof.Machine

/-! ### Re-admission (R16) -/

/-- A LEVELS request of one pair that is applied: one applied, none skipped (R79, R163). -/
theorem doLevels_one {l : LinkId} {h : HeadsetId} {a : AntennaId} {level : Byte} {s t : State}
    (hv : validHeadset h = true) (ho : s.owner a = some l) (ht : applyPair a (h, level) s = (t, true)) :
    doLevels l (byteOf a.val) [(h, level)] s = { state := t, status := .ok, fields := [1, 0] } := by
  have hfields : levelsFields (byteOf a.val) [(h, level)] = some a := by
    simp [levelsFields, Config.maxPairs, hv, antennaOf?_byteOf]
  simp only [doLevels, hfields, ho, applyPairs, ht, ne_eq, not_true_eq_false, if_false]
  rfl

/-- A pair at or above LOSS_LEVEL from an ACTIVE antenna re-admits an ADRIFT headset without an entry (R80, row 8). -/
theorem classify_of_readmission {s : State} {r : Record} {a : AntennaId} {level : Byte} (hs : r.state = .adrift)
    (hh : r.handoff = none) (hup : (s.ant a).state = .active) (hl : s.params.lossLevel ≤ level.toNat) :
    classify s r a level = .readmission := by
  simp [classify, startedToward, entryOf?_of_none hh, hs, hup, reachesLoss, hl]

/-- Re-admission where a seat fits: the seat is taken, the record seated, a PENDING key applied (R16, R48, R74). -/
theorem readmit_of_fit {s : State} {i : RosterIx} {r : Record} {a : AntennaId} {p : Placement}
    (hr : s.rec? i = some r) (hp : place? s a r.profile.listenBurst = some p) (level : Byte) :
    readmit i a level r s =
      (applyPending i ((s.modAnt a (Antenna.occupied s.params p.group p.seat
        { headset := i, kind := .serving, burst := r.profile.listenBurst } r.listen)).setRec i
          (some (r.seated a p level))), true) := by
  unfold readmit
  simp only [hp, takeSeat_eq]
  rw [State.modRec_of_some (r := r) (by exact hr)]

/-- A PENDING key of a served record is a fresh KEY on (R74). -/
theorem keyApplied_of_pending {s : State} {i : RosterIx} {r : Record} {v : Serving} (hr : s.rec? i = some r)
    (hk : r.key = .pending) (hv : r.serving = some v) : s.keyApplied i = s.pressed i r v.antenna := by
  simp [State.keyApplied, hr, hk, hv]

/-- Settles O12: the pair is classified as a re-admission, and the key of the record just seated is then applied. -/
theorem readmissionSeatsTheHeadset : Obligations.ReadmissionSeatsTheHeadset := by
  intro s l tag h level a i r p hq hv hf hr hs hh ho hup hl hp seated t run
  have row : run (applyPending i t) := by
    refine request_of_perform hq tag (.levels (byteOf a.val) [(h, level)]) 0x0A rfl (doLevels_one hv ho ?_)
    simp only [applyPair, hf, hr, classify_of_readmission hs hh hup hl, readmit_of_fit hr hp]
    rfl
  have ht : t.rec? i = some seated := State.rec?_setRec_self ..
  refine ⟨fun hk => ?_, fun hk => ?_⟩
  · rwa [applyPending_of_some ht hk] at row
  · rw [applyPending_eq ht rfl, keyApplied_of_pending ht hk rfl, State.pressed] at row
    refine ⟨fun u moved hm => ?_, fun hn hroom => ?_, fun hn hfull => ?_⟩
    · rwa [hm] at row
    · rw [hn] at row
      dsimp only at row
      rwa [if_pos hroom] at row
    · rw [hn] at row
      dsimp only at row
      rwa [if_neg (not_lt.2 hfull)] at row

/-! ### ATTACH of an ADRIFT headset (R11) -/

/-- The re-seating itself, after the abort of whatever entry the record held (R11, R48, R74). -/
theorem attachAdrift_eq (i : RosterIx) (r : Record) (a : AntennaId) (code : Option Profile) (prof : Profile)
    (set : ListenSet) (level : Byte) (s : State) :
    attachAdrift i r a code prof set level s =
      let t := abortHeld .released r s
      match place? t a prof.listenBurst with
      | none => { state := depthReleaseFor (s.loweredLink r) t, status := .frameFull, fields := [] }
      | some p =>
        { state := depthReleaseFor (s.loweredLink r)
            (((t.modAnt a (Antenna.occupied s.params p.group p.seat
                { headset := i, kind := .serving, burst := prof.listenBurst } set)).modRec i fun q =>
              { q.seated a p level with classCode := code, profile := prof, listen := set }).keyApplied i)
          status := .ok, fields := seatFields i { antenna := a, group := p.group, seat := p.seat } } := by
  unfold attachAdrift
  simp only [depthLinkOf_eq, takeSeat_eq, (abortHeld_rest .released r s).params]
  cases place? (abortHeld .released r s) a prof.listenBurst with
  | none => rfl
  | some p =>
    simp only
    rw [applyPending_modRec fun _ => rfl]

/-- Settles O15: with no entry nothing is aborted; with one, the re-seating is that of the state torn from it. -/
theorem attachReseatsAnAdriftHeadset : Obligations.AttachReseatsAnAdriftHeadset := by
  intro s l tag h a cls set level code prof i r hq hv hf hr hs ho hup hc seated place
  have answer : ∀ {t : State} {status fields},
      attachAdrift i r a code prof set level s = { state := t, status := status, fields := fields } →
      exec (.attach l tag h (byteOf a.val) cls set level) s = .next (t.replied l 0x08 tag status fields) :=
    fun ha => request_of_perform hq tag (.attach h (byteOf a.val) cls set level) 0x08 rfl
      ((doAttach_of_known hv hc ho hf hr set level).trans
        ((if_neg (not_not.2 hs)).trans ((if_neg (not_not.2 hup)).trans ha)))
  have reseated := attachAdrift_eq i r a code prof set level s
  refine ⟨fun hh => ?noEntry, fun x hx _ => ?entry⟩
  case noEntry =>
    have lowered : s.loweredLink r = none := (depthLinkOf_eq s r).symm.trans (depthLinkOf_of_none hh)
    rw [abortHeld_of_none hh, lowered] at reseated
    exact ⟨fun p hp => answer (by rw [reseated]; simp only [hp]; rfl),
      fun hp => answer (by rw [reseated]; simp only [hp]; rfl)⟩
  case entry =>
    rw [abortHeld_eq hx] at reseated
    exact ⟨fun p hp => answer (by rw [reseated]; simp only [hp]; rfl),
      fun hp => answer (by rw [reseated]; simp only [hp])⟩

end Sys2Proof.Machine
end

section
/-! ATTACH of a new headset (R9): the record taken, FREE or evicted, and the effects held over the seating. -/

namespace Sys2Proof.Machine

/-! ### Eviction (R7) -/

/-- Freeing a record undoes a change made to it. -/
theorem State.setRec_modRec (s : State) (i : RosterIx) (f : Record → Record) (r : Option Record) :
    (s.modRec i f).setRec i r = s.setRec i r := by
  cases h : s.rec? i with
  | none => rw [State.modRec_of_none h]
  | some q => rw [State.modRec_of_some h, State.setRec_setRec]

/-- Where every other record is in use, the one freed is the one FREE. -/
theorem freeIndex?_setRec_none {s : State} (h : ∀ j, s.rec? j ≠ none) (i : RosterIx) :
    freeIndex? (s.setRec i none) = some i :=
  freeIndex?_eq_some (State.rec?_setRec_self ..) fun j hj => by
    rw [State.rec?_setRec_ne s none (ne_of_gt hj)]
    exact h j

/-- With a record FREE none is evicted (R6). -/
theorem evictFor_of_free {s : State} {i : RosterIx} (h : freeIndex? s = some i) (a : AntennaId) :
    evictFor a s = { state := s, held := false, lowered := none } := by
  simp [evictFor, h]

/-- With no record FREE the victim is freed, its entry aborted without return; a seat reserved at the attach antenna is
released with its room-made effects held (R7, R9). -/
theorem evictFor_of_victim {s : State} {i : RosterIx} {r : Record} (hf : freeIndex? s = none)
    (hv : victim? s = some i) (hr : s.rec? i = some r) (a : AntennaId) :
    evictFor a s =
      { state := (abortHeld (if s.heldTarget r = some a then .held else .released) r s).setRec i none
        held := decide (s.heldTarget r = some a), lowered := s.loweredLink r } := by
  unfold evictFor
  simp only [hf, hv, hr, targetOf?_eq, depthLinkOf_eq, freeRecord]
  by_cases h : s.heldTarget r = some a <;> simp [h]

/-- An abort without return whose released seat's room-made effects are held (R9, R130). -/
theorem abortHeld_held {s : State} {r : Record} {x : Entry} {g : GroupIx} {n : SeatNo} (hx : s.entryOf? r = some x)
    (hr : s.rec? x.headset = some r) (hg : x.reserved = some (g, n)) :
    abortHeld .held r s =
      ({ s.modAnt x.target (fun y =>
          { y.withPlan s.params (putSeat y.plan g n none) with carriage := lowerCarriage y.carriage r.listen }) with
        handoffs := s.handoffs.filter fun y => y.num != x.num } : State).modRec x.headset (Record.unlinked x) := by
  cases hh : r.handoff with
  | none => simp [State.entryOf?, hh] at hx
  | some e =>
    have he : s.entry? e = some x := by simpa [State.entryOf?, hh] using hx
    obtain rfl := State.entry?_num he
    have hend : endReserved .held x s = s.modAnt x.target (fun y =>
        { y.withPlan s.params (putSeat y.plan g n none) with carriage := lowerCarriage y.carriage r.listen }) := by
      simp [endReserved, hg, hr, unseat, State.setPlan, State.setCarriage, State.modAnt, Antenna.withPlan]
    simp only [abortHeld, hh, abortEntry, he, hend]
    exact endTarget_freeEntry (s := s.modAnt _ _) he

/-! ### The seating (R9) -/

/-- The state after the record at an index is written for a new headset and its seat taken (R9, R48). -/
def State.seatedNew (s : State) (h : HeadsetId) (a : AntennaId) (code : Option Profile) (prof : Profile)
    (set : ListenSet) (level : Byte) (i : RosterIx) (p : Placement) : State :=
  (s.modAnt a (Antenna.occupied s.params p.group p.seat
    { headset := i, kind := .serving, burst := prof.listenBurst } set)).setRec i
      (some (newRecord h code prof set a p level))

/-- A record freed just before it is written leaves no trace. -/
theorem State.seatedNew_setRec (s : State) (h : HeadsetId) (a : AntennaId) (code : Option Profile) (prof : Profile)
    (set : ListenSet) (level : Byte) (i : RosterIx) (r : Option Record) (p : Placement) :
    (s.setRec i r).seatedNew h a code prof set level i p = s.seatedNew h a code prof set level i p :=
  State.setRec_setRec (s.modAnt a _) i r _

/-- ATTACH of a new headset that finds a record and a seat: eviction, the seating, the effects held, and the depth
release (R9). -/
theorem attachNew_of_fit {s : State} {a : AntennaId} {prof : Profile} {i : RosterIx} {p : Placement} {ev : Evicted}
    (hrec : ¬ (freeIndex? s = none ∧ victim? s = none)) (hseat : place? s a prof.listenBurst ≠ none)
    (hev : evictFor a s = ev) (hi : freeIndex? ev.state = some i) (hp : place? ev.state a prof.listenBurst = some p)
    (h : HeadsetId) (code : Option Profile) (set : ListenSet) (level : Byte) :
    attachNew h a code prof set level s =
      { state := depthReleaseFor ev.lowered
          (if ev.held then roomMade a (ev.state.seatedNew h a code prof set level i p)
            else ev.state.seatedNew h a code prof set level i p)
        status := .ok, fields := seatFields i { antenna := a, group := p.group, seat := p.seat } } := by
  obtain ⟨p', hp'⟩ := Option.ne_none_iff_exists'.1 hseat
  unfold attachNew
  rw [if_neg (by simpa using hrec)]
  simp only [hp', hev, hi, hp, takeSeat_eq]
  rfl

/-- Settles O14: the lowest FREE record is taken as it stands; an evicted one is freed first, with its entry torn down,
and a seat it had reserved at the attach antenna makes room only once the new seat is taken. -/
theorem attachSeatsANewHeadset : Obligations.AttachSeatsANewHeadset := by
  refine ⟨fun prof => by cases prof <;> rfl, fun cls => ⟨fun hz => ?zero, fun prof hp => ?own, classOf?_of_reserved,
    classOf?_of_high⟩, ?evicted, ?unheld⟩
  case zero => simp [classOf?, hz]
  case own => cases prof <;> simp [classOf?, hp]
  case evicted =>
    intro s l tag h a cls set level code prof i r x p hq hv hf ho hup hc hall hvic hr hx hi hseat seated run
    subst hi
    have hfree := freeIndex?_eq_none.2 hall
    have answer : ∀ {ev : Evicted}, evictFor a s = ev → freeIndex? ev.state = some x.headset →
        place? ev.state a prof.listenBurst = some p → ev.lowered = s.loweredLink r →
        run (if ev.held then roomMade a (ev.state.seatedNew h a code prof set level x.headset p)
          else ev.state.seatedNew h a code prof set level x.headset p) := fun hev hix hp hlow => by
      refine request_of_perform hq tag (.attach h (byteOf a.val) cls set level) 0x08 rfl
        ((doAttach_of_unknown hv hc ho hf set level).trans ((if_neg (not_not.2 hup)).trans ?_))
      rw [attachNew_of_fit (by simp [hvic]) hseat hev hix hp, hlow]
      rfl
    have hev := evictFor_of_victim hfree hvic hr a
    constructor
    · intro hne hp
      rw [if_neg hne, decide_eq_false hne, abortHeld_eq hx] at hev
      have row := answer hev (freeIndex?_setRec_none (fun j => mt State.torn_rec?_eq_none.1 (hall j)) _) hp rfl
      rw [if_neg Bool.false_ne_true, State.seatedNew_setRec, State.seatedNew, torn_params hx] at row
      exact row
    · intro g n hta hg freed hp
      obtain rfl : x.target = a := by
        by_cases hph : x.phase = .queued <;> simp [State.heldTarget, hx, hph] at hta
        exact hta
      rw [if_pos hta, decide_eq_true hta, abortHeld_held hx hr hg, State.setRec_modRec] at hev
      have row := answer hev (freeIndex?_setRec_none hall _) hp rfl
      rw [if_pos rfl, State.seatedNew_setRec] at row
      exact row
  case unheld =>
    intro s l tag h a cls set level code prof i p hq hv hf ho hup hc hwhich hp
    refine request_of_perform hq tag (.attach h (byteOf a.val) cls set level) 0x08 rfl
      ((doAttach_of_unknown hv hc ho hf set level).trans ((if_neg (not_not.2 hup)).trans ?_))
    have hseat : place? s a prof.listenBurst ≠ none := by simp [hp]
    rcases hwhich with ⟨hi, hlow⟩ | ⟨hall, hvic, hno⟩
    · have hfree := freeIndex?_eq_some hi hlow
      rw [attachNew_of_fit (by simp [hfree]) hseat (evictFor_of_free hfree a) hfree hp]
      rfl
    · obtain ⟨r, hr⟩ := Option.ne_none_iff_exists'.1 (hall i)
      have hh := hno r hr
      have hev := evictFor_of_victim (freeIndex?_eq_none.2 hall) hvic hr a
      rw [abortHeld_of_none hh] at hev
      have hheld : s.heldTarget r = none := by simp [State.heldTarget, entryOf?_of_none hh]
      rw [attachNew_of_fit (by simp [hvic]) hseat hev (freeIndex?_setRec_none hall i) hp, State.seatedNew_setRec]
      simp only [hheld, State.loweredLink]
      rfl

end Sys2Proof.Machine
end

section
/-! ANT DOWN (R26): its walks over the handoff table and the roster, one headset at a time. -/

namespace Sys2Proof.Machine

/-! ### Walks in roster order (R20) -/

/-- A walk that changes nothing anywhere changes nothing. -/
theorem rosterWalk_fixed {f : State → RosterIx → State} {s : State} (h : ∀ j, f s j = s) :
    rosterOrder.foldl f s = s :=
  List.foldl_fixed' h _

/-- The first index at which a walk acts may be taken before the walk, where the walk then finds nothing to do up to and
at that index. -/
theorem rosterWalk_first {f : State → RosterIx → State} {s t : State} {i : RosterIx} (hs : ∀ j, j < i → f s j = s)
    (hi : f s i = t) (ht : ∀ j, j ≤ i → f t j = t) : rosterOrder.foldl f s = rosterOrder.foldl f t := by
  obtain ⟨before, after, hl⟩ := List.append_of_mem (mem_ascending i)
  have hb : ∀ j ∈ before, j < i := fun j hj => by
    have hord := ascending_pairwise 192
    rw [hl] at hord
    exact (List.pairwise_append.1 hord).2.2 j hj i (List.mem_cons_self ..)
  have fixed : ∀ (l : List RosterIx) (u : State), (∀ j ∈ l, f u j = u) → l.foldl f u = u := fun l u hu => by
    induction l with
    | nil => rfl
    | cons j rest ih =>
      rw [List.foldl_cons, hu j (List.mem_cons_self ..)]
      exact ih fun k hk => hu k (List.mem_cons_of_mem _ hk)
  unfold rosterOrder
  rw [hl, List.foldl_append, List.foldl_append, List.foldl_cons, List.foldl_cons,
    fixed before s fun j hj => hs j (hb j hj), fixed before t fun j hj => ht j (hb j hj).le, hi, ht i le_rfl]

/-- Records changed one after another: each of them once, the others not. -/
theorem foldl_modRec_rec? (f : Record → Record) : ∀ {l : List RosterIx}, l.Nodup → ∀ (s : State) (j : RosterIx),
    (l.foldl (fun t i => t.modRec i f) s).rec? j = if j ∈ l then (s.rec? j).map f else s.rec? j
  | [], _, _, _ => by simp
  | i :: rest, hn, s, j => by
    obtain ⟨hi, hrest⟩ := List.nodup_cons.1 hn
    rw [List.foldl_cons, foldl_modRec_rec? f hrest, State.rec?_modRec]
    by_cases hj : i = j
    · subst hj; simp [hi]
    · simp [hj, Ne.symm hj]

/-- Records changed one after another: nothing but the roster changes. -/
theorem foldl_modRec_others (f : Record → Record) : ∀ (l : List RosterIx) (s : State),
    ∃ v, l.foldl (fun t i => t.modRec i f) s = { s with roster := v }
  | [], s => ⟨s.roster, rfl⟩
  | i :: rest, s => by
    obtain ⟨v, hv⟩ := foldl_modRec_others f rest (s.modRec i f)
    refine ⟨v, hv.trans ?_⟩
    unfold State.modRec
    split <;> rfl

/-- A change of every record, made one record after another. -/
theorem rosterWalk_modRec (f : Record → Record) (s : State) :
    rosterOrder.foldl (fun t i => t.modRec i f) s = { s with roster := s.roster.map (Option.map f) } := by
  obtain ⟨v, hv⟩ := foldl_modRec_others f rosterOrder s
  have hmap : v = s.roster.map (Option.map f) := by
    ext1 k hk
    have hrec := foldl_modRec_rec? f ((ascending_pairwise 192).imp fun h => h.ne) s ⟨k, hk⟩
    rw [if_pos (mem_ascending _), show ascending 192 = rosterOrder from rfl, hv] at hrec
    simpa [State.rec?, Vector.get_eq_getElem] using hrec
  exact hv.trans (congrArg (fun w => { s with roster := w }) hmap)

/-! ### The handoff table under an abort -/

/-- An entry that a smaller table still finds was found in the whole one. -/
theorem entry?_of_filter {s t : State} {n e : EntryNo} {y : Entry}
    (ht : t.handoffs = s.handoffs.filter fun z => z.num != n) (h : t.entry? e = some y) : s.entry? e = some y := by
  have hn : e ≠ n := by
    have hmem := State.entry?_mem h
    rw [ht, List.mem_filter] at hmem
    simpa [State.entry?_num h] using hmem.2
  rw [State.entry?, ht, List.find?_filter] at h
  rw [State.entry?, ← h]
  congr 1
  funext z
  by_cases hz : z.num = e <;> simp [hz, hn]

/-- A record's entry depends on the handoff table alone. -/
theorem entryOf?_of_handoffs {s t : State} (h : t.handoffs = s.handoffs) (r : Record) :
    t.entryOf? r = s.entryOf? r := by
  simp [State.entryOf?, State.entry?, h]

/-- A change of one entry that keeps its number is seen through every reference to it. -/
theorem entryOf?_modEntry {f : Entry → Entry} (hf : ∀ y, (f y).num = y.num) (s : State) (e : EntryNo) (r : Record) :
    (s.modEntry e f).entryOf? r = (s.entryOf? r).map fun y => if y.num = e then f y else y := by
  have hnum : ∀ n : EntryNo, ((fun y : Entry => y.num == n) ∘ fun y => if y.num = e then f y else y) =
      fun y => y.num == n := fun n => by
    funext y
    by_cases hy : y.num = e <;> simp [hy, hf]
  cases hh : r.handoff with
  | none => simp [State.entryOf?, hh]
  | some n => simp only [State.entryOf?, hh, State.entry?, State.modEntry, List.find?_map, hnum]

/-- The table after an abort with return is the table without the entry (R130). -/
theorem State.recalled_handoffs (s : State) (x : Entry) (drop : Bool) :
    (s.recalled x drop).handoffs = s.handoffs.filter fun y => y.num != x.num := by
  unfold State.recalled
  dsimp only
  split
  · exact s.torn_handoffs x drop
  · rw [(keyApplied_kept ..).1]
    split
    · exact (State.modRec_handoffs ..).trans (s.torn_handoffs x drop)
    · exact (State.modRec_handoffs ..).trans (s.torn_handoffs x drop)

/-! ### A headset gone from an antenna (R13) -/

theorem State.gone_handoffs (s : State) (i : RosterIx) : (s.gone i).handoffs = s.handoffs := by
  unfold State.gone State.queueLeft
  split
  · rfl
  · split <;> rfl

/-- The headset's own record is lost. -/
theorem State.gone_rec?_self (s : State) (i : RosterIx) : (s.gone i).rec? i = (s.rec? i).map Record.lost := by
  unfold State.gone
  cases h : s.rec? i with
  | none => exact h
  | some r => exact State.rec?_setRec_self ..

/-- Every other record stands. -/
theorem State.gone_rec?_ne (s : State) {i j : RosterIx} (h : i ≠ j) : (s.gone i).rec? j = s.rec? j := by
  unfold State.gone
  cases s.rec? i with
  | none => rfl
  | some r => exact (State.rec?_setRec_ne _ _ h).trans (s.queueLeft_rec? i r j)

/-- A headset that has gone is served nowhere. -/
theorem servedAt_of_gone {s : State} {i : RosterIx} {q : Record} (h : (s.gone i).rec? i = some q) (a : AntennaId) :
    servedAt q a = false := by
  rw [State.gone_rec?_self] at h
  obtain ⟨r, -, rfl⟩ := Option.map_eq_some_iff.1 h
  rfl

/-- Records of one face are served at the same antenna. -/
theorem servedAt_of_face {q r : Record} (h : q.face = r.face) (a : AntennaId) : servedAt q a = servedAt r a := by
  obtain ⟨-, -, -, -, -, -, -, -, hs⟩ := face_fields h
  rw [servedAt, servedAt, hs]

/-! ### The three walks of ANT DOWN (R27, R28, R29) -/

/-- A record served at the antenna whose handoff is MOVING away from it (R28). -/
def State.movingAway (s : State) (a : AntennaId) (j : RosterIx) : Prop :=
  ∃ q y, s.rec? j = some q ∧ servedAt q a = true ∧ s.entryOf? q = some y ∧ y.phase = .moving ∧ y.source = a

theorem loseMoving_of_not_away {s : State} {a : AntennaId} {j : RosterIx} (h : ¬ s.movingAway a j) :
    loseMoving a j s = s := by
  unfold loseMoving
  split
  · rfl
  · next q hq =>
    split
    · rfl
    · next y hy => exact if_neg fun ⟨hp, hsrc, hserved⟩ => h ⟨q, y, hq, hserved, hy, hp, hsrc⟩

theorem loseMoving_of_away {s : State} {a : AntennaId} {i : RosterIx} {r : Record} {x : Entry}
    (hr : s.rec? i = some r) (hserved : servedAt r a = true) (hx : s.entryOf? r = some x) (hp : x.phase = .moving)
    (hsrc : x.source = a) :
    loseMoving a i s = (s.gone i).modEntry x.num fun y => { y with moveDue := false } := by
  unfold loseMoving
  simp only [hr, hx, hp, hsrc, hserved, and_self, if_true, enterAdrift_dropped]

theorem loseServed_of_elsewhere {s : State} {a : AntennaId} {j : RosterIx}
    (h : ∀ q, s.rec? j = some q → servedAt q a = false) : loseServed a j s = s := by
  unfold loseServed
  split
  · rfl
  · next q hq => rw [h q hq]; rfl

theorem loseServed_of_served {s : State} {a : AntennaId} {i : RosterIx} {r : Record} (hr : s.rec? i = some r)
    (hserved : servedAt r a = true) : loseServed a i s = (abortHeld .released r s).gone i := by
  unfold loseServed
  simp only [hr, hserved, if_true, enterAdrift_dropped]

/-- With no entry inbound none is aborted (R27). -/
theorem abortInbound_of_none {s : State} {a : AntennaId} (h : ∀ y ∈ s.handoffs, y.target ≠ a) (m : SeatEnd) :
    abortInbound m a s = s := by
  have : inbound s a = [] := by
    simpa [inbound] using h
  simp [abortInbound, this]

/-- Step 2 of ANT DOWN (R28). -/
def movingWalk (a : AntennaId) (s : State) : State := rosterOrder.foldl (fun s i => loseMoving a i s) s

/-- Step 3 of ANT DOWN (R29). -/
def servedWalk (a : AntennaId) (s : State) : State := rosterOrder.foldl (fun s i => loseServed a i s) s

/-- With no entry inbound, going down begins with the headsets MOVING away (R28). -/
theorem goDown_of_no_inbound {s : State} {a : AntennaId} (h : ∀ y ∈ s.handoffs, y.target ≠ a) :
    goDown a s = clearAntenna a (servedWalk a (movingWalk a s)) :=
  congrArg (fun t => clearAntenna a (servedWalk a (movingWalk a t))) (abortInbound_of_none h .dropped)

/-- With none MOVING away either, going down begins with the headsets served there (R29). -/
theorem goDown_of_none_away {s : State} {a : AntennaId} (h : ∀ y ∈ s.handoffs, y.target ≠ a)
    (haway : ∀ j, ¬ s.movingAway a j) :
    goDown a s = clearAntenna a (servedWalk a s) := by
  have : movingWalk a s = s := rosterWalk_fixed fun j => loseMoving_of_not_away (haway j)
  rw [goDown_of_no_inbound h, this]

/-- The oldest inbound entry is aborted first (R27). -/
theorem goDown_recalled {s : State} {a : AntennaId} {older newer : List Entry} {x : Entry} (htab : TableInOrder s)
    (hs : s.handoffs = older ++ x :: newer) (hold : ∀ y ∈ older, y.target ≠ a) (hx : x.target = a) :
    goDown a s = goDown a (s.recalled x true) := by
  obtain ⟨holder, hnewer⟩ : (∀ y ∈ older, y.num ≠ x.num) ∧ ∀ y ∈ newer, y.num ≠ x.num := by
    have hn := htab.2
    rw [hs, List.map_append, List.map_cons, List.nodup_append, List.nodup_cons] at hn
    obtain ⟨-, ⟨hxn, -⟩, hdis⟩ := hn
    exact ⟨fun y hy => hdis _ (List.mem_map_of_mem hy) _ (List.mem_cons_self ..),
      fun y hy he => hxn (he ▸ List.mem_map_of_mem hy)⟩
  have hentry : s.entry? x.num = some x := by
    rw [State.entry?, hs, List.find?_append, List.find?_eq_none.2 fun y hy => by simpa using holder y hy]
    simp
  have hout : older.filter (fun y => y.target == a) = [] := by simpa using hold
  have hnow : inbound s a = x.num :: (newer.filter fun y => y.target == a).map Entry.num := by
    simp [inbound, hs, hout, hx]
  have hthen : inbound (s.recalled x true) a = (newer.filter fun y => y.target == a).map Entry.num := by
    have : (older ++ x :: newer).filter (fun y => y.num != x.num) = older ++ newer := by
      rw [List.filter_append, List.filter_cons_of_neg (by simp),
        List.filter_eq_self.2 fun y hy => by simpa using holder y hy,
        List.filter_eq_self.2 fun y hy => by simpa using hnewer y hy]
    rw [inbound, State.recalled_handoffs, hs, this, List.filter_append, hout, List.nil_append]
  have : abortInbound .dropped a s = abortInbound .dropped a (s.recalled x true) := by
    rw [abortInbound, abortInbound, hnow, hthen, List.foldl_cons, abortReturn_dropped hentry]
  unfold goDown
  rw [this]

/-- The first headset MOVING away goes ADRIFT first, its MOVE no longer due (R28). -/
theorem goDown_moving {s : State} {a : AntennaId} {i : RosterIx} {r : Record} {x : Entry}
    (hin : ∀ y ∈ s.handoffs, y.target ≠ a) (hr : s.rec? i = some r) (hserved : servedAt r a = true)
    (hx : s.entryOf? r = some x) (hp : x.phase = .moving) (hsrc : x.source = a)
    (hfirst : ∀ j, j < i → ¬ s.movingAway a j) :
    goDown a s = goDown a ((s.gone i).modEntry x.num fun y => { y with moveDue := false }) := by
  have hin' : ∀ y ∈ ((s.gone i).modEntry x.num fun y => { y with moveDue := false }).handoffs, y.target ≠ a := by
    intro y hy
    obtain ⟨z, hz, rfl⟩ := List.mem_map.1 hy
    rw [State.gone_handoffs] at hz
    have := hin z hz
    split <;> exact this
  have hfirst' : ∀ j, j ≤ i →
      ¬ ((s.gone i).modEntry x.num fun y => { y with moveDue := false }).movingAway a j := by
    rintro j hj ⟨q, y, hq, hqs, hy, hyp, hys⟩
    rw [State.modEntry_rec?] at hq
    rcases hj.lt_or_eq with hlt | rfl
    · rw [entryOf?_modEntry (f := fun y => { y with moveDue := false }) (fun _ => rfl),
          entryOf?_of_handoffs (s.gone_handoffs i)] at hy
      obtain ⟨z, hz, rfl⟩ := Option.map_eq_some_iff.1 hy
      rw [s.gone_rec?_ne hlt.ne'] at hq
      refine hfirst j hlt ⟨q, z, hq, hqs, hz, ?_, ?_⟩
      · split at hyp <;> exact hyp
      · split at hys <;> exact hys
    · rw [servedAt_of_gone hq] at hqs
      cases hqs
  have hwalk : movingWalk a s = movingWalk a ((s.gone i).modEntry x.num fun y => { y with moveDue := false }) :=
    rosterWalk_first (fun j hj => loseMoving_of_not_away (hfirst j hj)) (loseMoving_of_away hr hserved hx hp hsrc)
      fun j hj => loseMoving_of_not_away (hfirst' j hj)
  rw [goDown_of_no_inbound hin, goDown_of_no_inbound hin', hwalk]

/-- The first headset served at the antenna goes ADRIFT first, its entry aborted without return (R29): the step from s
to u, which tears at most entries out and keeps every other record's face. -/
theorem goDown_served {s u : State} {a : AntennaId} {i : RosterIx} (hin : ∀ y ∈ s.handoffs, y.target ≠ a)
    (haway : ∀ j, ¬ s.movingAway a j) (hfirst : ∀ j q, j < i → s.rec? j = some q → servedAt q a = false)
    (hi : loseServed a i s = u.gone i) (hmem : ∀ y ∈ u.handoffs, y ∈ s.handoffs)
    (hentry : ∀ e y, u.entry? e = some y → s.entry? e = some y)
    (hface : ∀ j, i ≠ j → (u.rec? j).map Record.face = (s.rec? j).map Record.face) :
    goDown a s = goDown a (u.gone i) := by
  have back : ∀ {j q}, i ≠ j → (u.gone i).rec? j = some q → ∃ r, s.rec? j = some r ∧ q.face = r.face := by
    intro j q hj hq
    rw [u.gone_rec?_ne hj] at hq
    have := hface j hj
    rw [hq, Option.map_some, eq_comm] at this
    obtain ⟨r, hr, he⟩ := Option.map_eq_some_iff.1 this
    exact ⟨r, hr, he.symm⟩
  have haway' : ∀ j, ¬ (u.gone i).movingAway a j := by
    rintro j ⟨q, y, hq, hqs, hy, hyp, hys⟩
    by_cases hj : i = j
    · subst hj
      rw [servedAt_of_gone hq] at hqs
      cases hqs
    · obtain ⟨r, hr, hf⟩ := back hj hq
      obtain ⟨-, -, -, hh, -⟩ := face_fields hf
      refine haway j ⟨r, y, hr, (servedAt_of_face hf a).symm.trans hqs, ?_, hyp, hys⟩
      rw [entryOf?_of_handoffs (u.gone_handoffs i), State.entryOf?, hh] at hy
      unfold State.entryOf?
      split at hy
      · cases hy
      · next e _ => exact hentry e y hy
  have hfirst' : ∀ j, j ≤ i → ∀ q, (u.gone i).rec? j = some q → servedAt q a = false := by
    intro j hj q hq
    rcases hj.lt_or_eq with hlt | rfl
    · obtain ⟨r, hr, hf⟩ := back hlt.ne' hq
      exact (servedAt_of_face hf a).trans (hfirst j r hlt hr)
    · exact servedAt_of_gone hq a
  have hwalk : servedWalk a s = servedWalk a (u.gone i) :=
    rosterWalk_first (fun j hj => loseServed_of_elsewhere fun q => hfirst j q hj) hi
      fun j hj => loseServed_of_elsewhere (hfirst' j hj)
  rw [goDown_of_none_away hin haway, goDown_of_none_away (fun y hy => hin y (hmem y (u.gone_handoffs i ▸ hy))) haway',
    hwalk]

end Sys2Proof.Machine
end

section
/-! ANT DOWN as a request: the antenna byte of its reply, the state written out where the handoff table is empty, and
the obligation on it. -/

namespace Sys2Proof.Machine

/-! ### Depth releases leave the antennas' states -/

/-- The start of an entry leaves every antenna's state (R110). -/
theorem startEntry_antState (e : EntryNo) (s : State) (a : AntennaId) :
    ((startEntry e s).ant a).state = (s.ant a).state := by
  cases he : s.entry? e with
  | none => simp [startEntry, he]
  | some x =>
    obtain rfl := State.entry?_num he
    cases hr : s.rec? x.headset with
    | none =>
      simp only [startEntry, he, hr]
      rw [State.freeEntry_of_some he, State.modRec_ant]
      rfl
    | some r =>
      have failed : ∀ b, ((s.startFailed x r b).ant a).state = (s.ant a).state := fun b =>
        ((keyApplied_kept ..).2.1 a).1
      rw [startEntry_eq he hr]
      split
      · exact failed _
      · split
        · exact failed _
        · next p _ =>
          exact ((modAnt_kept (s := s) (a := x.target) (f := Antenna.occupied s.params p.group p.seat
            { headset := x.headset, kind := .reserved, burst := r.currentBurst } r.listen) ⟨rfl, rfl⟩).2.1 a).1

theorem depthReleaseLoop_antState (k : LinkId) (a : AntennaId) : ∀ (n : Nat) (s : State),
    ((depthReleaseLoop k n s).ant a).state = (s.ant a).state
  | 0, _ => rfl
  | n + 1, s => by
    unfold depthReleaseLoop
    split
    · split
      · rfl
      · exact (depthReleaseLoop_antState k a n _).trans (startEntry_antState ..)
    · rfl

/-- The depth releases leave every antenna's state (R31). -/
theorem depthReleaseAll_antState (s : State) (a : AntennaId) :
    ((depthReleaseAll s).ant a).state = (s.ant a).state := by
  unfold depthReleaseAll
  induction linkOrder generalizing s with
  | nil => rfl
  | cons k rest ih => exact (ih _).trans (depthReleaseLoop_antState k a _ s)

/-! ### Going down with an empty handoff table -/

/-- The record after ANT DOWN: lost where it was served at the antenna (R13, R29). -/
def Record.lostAt (a : AntennaId) (r : Record) : Record := if servedAt r a then r.lost else r

/-- With no entry in the table none is aborted (R106). -/
theorem abortHeld_of_empty_table {s : State} (h : s.handoffs = []) (m : SeatEnd) (r : Record) :
    abortHeld m r s = s := by
  cases hh : r.handoff <;> simp [abortHeld, abortEntry, State.entry?, hh, h]

/-- One headset of step 3, seen past the clearing of the antenna: nothing but its record has changed (R29, R30). -/
theorem loseServed_clearAntenna {s : State} (h : s.handoffs = []) (a : AntennaId) (i : RosterIx) :
    clearAntenna a (loseServed a i s) = (clearAntenna a s).modRec i (Record.lostAt a) := by
  cases hr : s.rec? i with
  | none =>
    rw [loseServed_of_elsewhere (by simp [hr]), State.modRec_of_none (by exact hr)]
  | some r =>
    rw [State.modRec_of_some (s := clearAntenna a s) (r := r) (by exact hr)]
    cases hs : servedAt r a with
    | false =>
      rw [loseServed_of_elsewhere (by simp [hr, hs]), Record.lostAt, hs]
      exact ((clearAntenna a s).setRec_rec? i).symm.trans (congrArg ((clearAntenna a s).setRec i) hr)
    | true =>
      obtain ⟨v, hv, rfl⟩ := servedAt_iff.1 hs
      rw [loseServed_of_served hr hs, abortHeld_of_empty_table h, State.gone, hr, Record.lostAt, hs]
      simp only [clearAntenna, State.setRec_setAnt, State.queueLeft_of_served hv, State.modAnt, State.setAnt_setAnt,
        if_true]

theorem loseServed_handoffs_of_empty {s : State} (h : s.handoffs = []) (a : AntennaId) (i : RosterIx) :
    (loseServed a i s).handoffs = [] := by
  cases hr : s.rec? i with
  | none => rw [loseServed_of_elsewhere (by simp [hr]), h]
  | some r =>
    cases hs : servedAt r a with
    | false => rw [loseServed_of_elsewhere (by simp [hr, hs]), h]
    | true => rw [loseServed_of_served hr hs, abortHeld_of_empty_table h, State.gone_handoffs, h]

/-- Step 3 for some headsets, seen past the clearing of the antenna. -/
theorem foldl_loseServed_clearAntenna (a : AntennaId) : ∀ (l : List RosterIx) {s : State}, s.handoffs = [] →
    clearAntenna a (l.foldl (fun s i => loseServed a i s) s) =
      l.foldl (fun s i => s.modRec i (Record.lostAt a)) (clearAntenna a s)
  | [], _, _ => rfl
  | i :: rest, _, h => by
    rw [List.foldl_cons, List.foldl_cons, ← loseServed_clearAntenna h]
    exact foldl_loseServed_clearAntenna a rest (loseServed_handoffs_of_empty h a i)

/-- With an empty handoff table every headset served at the antenna is lost, and nothing else changes but the antenna
(R13, R29, R30). -/
theorem goDown_of_empty_table {s : State} (h : s.handoffs = []) (a : AntennaId) :
    goDown a s = ({ s with roster := s.roster.map (Option.map (Record.lostAt a)) } : State).setAnt a Antenna.down := by
  have haway : ∀ j, ¬ s.movingAway a j := by
    rintro j ⟨q, y, -, -, hy, -⟩
    cases hh : q.handoff <;> simp [State.entryOf?, State.entry?, hh, h] at hy
  calc goDown a s
    _ = clearAntenna a (servedWalk a s) := goDown_of_none_away (by simp [h]) haway
    _ = rosterOrder.foldl (fun s i => s.modRec i (Record.lostAt a)) (clearAntenna a s) :=
      foldl_loseServed_clearAntenna a rosterOrder h
    _ = _ := rosterWalk_modRec ..

/-! ### The request -/

/-- ANT DOWN by the owner of an antenna in service: the reply's antenna byte says DOWN (R26, R164). -/
theorem doAntDown_of_owner {l : LinkId} {a : AntennaId} {s : State} (hup : (s.ant a).state ≠ .down)
    (ho : s.owner a = some l) :
    doAntDown l (byteOf a.val) s =
      { state := depthReleaseAll (goDown a s), status := .ok, fields := [byteOf a.val] } := by
  have hdown : ((depthReleaseAll (goDown a s)).ant a).state = .down := by
    rw [depthReleaseAll_antState, goDown, clearAntenna, State.ant_setAnt_self]
    rfl
  have hbyte : antennaByte (depthReleaseAll (goDown a s)) a = byteOf a.val := by
    simp [antennaByte, hdown, AntennaState.code]
  unfold doAntDown antennaRequest
  rw [antennaOf?_byteOf]
  simp only [hup, ho, if_false, ne_eq, not_true_eq_false, antennaOk, hbyte]

/-- Settles O22: the three walks of ANT DOWN taken one headset at a time, and the whole state for an empty table. -/
theorem antDownTakesAnAntennaDown : Obligations.AntDownTakesAnAntennaDown := by
  refine ⟨fun s l tag a hq hup ho => ?request,
    fun s a htab => ⟨?inbound, fun hin => ⟨?moving, fun haway => ⟨?served, ?last⟩⟩⟩⟩
  case request =>
    have row : exec (.antDown l tag (byteOf a.val)) s = .next
        ((depthReleaseAll (goDown a s)).replied l 0x02 tag .ok [byteOf a.val]) :=
      request_of_perform hq tag (.antDown (byteOf a.val)) 0x02 rfl (doAntDown_of_owner hup ho)
    refine ⟨row, fun h => ?_⟩
    rw [row, goDown_of_empty_table h, depthReleaseAll_of_none fun x hx => by simp [h] at hx]
    rfl
  case inbound => exact fun older x newer hs hold hx => goDown_recalled htab hs hold hx
  case moving => exact fun i r x hr hserved hx hp hsrc hfirst => goDown_moving hin hr hserved hx hp hsrc hfirst
  case served =>
    intro i r hr hserved hfirst
    have step := loseServed_of_served hr hserved
    refine ⟨fun hh => ?_, fun x hx hi => ?_⟩
    · rw [abortHeld_of_none hh] at step
      exact goDown_served hin haway hfirst step (fun _ => id) (fun _ _ => id) fun _ _ => rfl
    · rw [abortHeld_eq hx] at step
      have htorn := s.torn_handoffs x false
      exact goDown_served hin haway hfirst step (fun y hy => List.mem_of_mem_filter (htorn ▸ hy))
        (fun e y => entry?_of_filter htorn) fun j hj => s.torn_face x false (hi ▸ hj)
  case last =>
    intro hnone
    have : servedWalk a s = s := rosterWalk_fixed fun j => loseServed_of_elsewhere (hnone j)
    rw [goDown_of_none_away hin haway, this]
    rfl

end Sys2Proof.Machine
end

section
/-! The checks of the antenna requests and LEVELS (R24, R78), the antenna byte of their replies (R164), and ANT UP
(R25). -/

namespace Sys2Proof.Machine

/-! ### The checks that the antenna requests share (R24) -/

section
variable {l : LinkId} {a : AntennaId} {s : State} {onDown onUp : AntennaId → Answer}

/-- An antenna field above 63 is BAD FIELD (R161). -/
theorem antennaRequest_of_high {b : Byte} (hb : 63 < b.toNat) :
    antennaRequest l b s onDown onUp = .refuse s .badField := by
  simp [antennaRequest, antennaOf?_of_high hb]

/-- A DOWN antenna gets the request's own answer. -/
theorem antennaRequest_of_down (h : (s.ant a).state = .down) :
    antennaRequest l (byteOf a.val) s onDown onUp = onDown a := by
  simp [antennaRequest, antennaOf?_byteOf, h]

/-- An antenna in service under another link is NOT OWNER. -/
theorem antennaRequest_of_foreign (h : (s.ant a).state ≠ .down) (ho : s.owner a ≠ some l) :
    antennaRequest l (byteOf a.val) s onDown onUp = .refuse s .notOwner := by
  simp [antennaRequest, antennaOf?_byteOf, h, ho]

/-- The owner of an antenna in service gets the request's action. -/
theorem antennaRequest_of_owner (h : (s.ant a).state ≠ .down) (ho : s.owner a = some l) :
    antennaRequest l (byteOf a.val) s onDown onUp = onUp a := by
  simp [antennaRequest, antennaOf?_byteOf, h, ho]

end

/-! ### The antenna byte (R164) -/

/-- The state code stands in bits 7 and 6, above the six bits of the ID (R164). -/
theorem antennaByte_eq (s : State) (a : AntennaId) :
    antennaByte s a = 64 * (s.ant a).state.code + byteOf a.val := by
  have bits : ∀ (x : AntennaState) (b : AntennaId), (x.code <<< 6) ||| byteOf b.val = 64 * x.code + byteOf b.val := by
    intro x
    cases x <;> decide
  exact bits ..

/-- An antenna request answered OK (R164). -/
theorem antennaOk_eq (a : AntennaId) (s : State) :
    antennaOk a s = { state := s, status := .ok, fields := [64 * (s.ant a).state.code + byteOf a.val] } := by
  rw [antennaOk, antennaByte_eq]

/-! ### LEVELS (R78) -/

/-- The fields of a LEVELS request that pass no check (R78). -/
theorem levelsFields_eq_none {b : Byte} {pairs : List (HeadsetId × Byte)}
    (h : 63 < b.toNat ∨ pairs = [] ∨ 24 < pairs.length ∨ ∃ p ∈ pairs, validHeadset p.1 = false) :
    levelsFields b pairs = none := by
  unfold levelsFields
  split
  · rfl
  · next hok =>
    simp only [not_or, List.length_eq_zero_iff, Config.maxPairs, Bool.not_eq_false, List.all_eq_true] at hok
    obtain ⟨hne, hlen, hvalid⟩ := hok
    rcases h with hb | hnil | hlong | ⟨p, hp, hinv⟩
    · exact antennaOf?_of_high hb
    · exact absurd hnil hne
    · exact absurd hlong hlen
    · simp [hvalid p hp] at hinv

/-- The fields of a LEVELS request that pass every check (R78). -/
theorem levelsFields_byteOf {pairs : List (HeadsetId × Byte)} (a : AntennaId) (hne : pairs ≠ [])
    (hlen : pairs.length ≤ 24) (hvalid : ∀ p ∈ pairs, validHeadset p.1 = true) :
    levelsFields (byteOf a.val) pairs = some a := by
  have hok : ¬ (pairs.length = 0 ∨ Config.maxPairs < pairs.length ∨
      (pairs.all fun p => validHeadset p.1) = false) := by
    simp only [not_or, List.length_eq_zero_iff, Config.maxPairs, Bool.not_eq_false, List.all_eq_true]
    exact ⟨hne, by omega, hvalid⟩
  rw [levelsFields, if_neg hok, antennaOf?_byteOf]

/-- Settles O25: every refusal of the antenna requests and LEVELS, check by check. -/
theorem antennaRequestsAreChecked : Obligations.AntennaRequestsAreChecked := by
  intro s l tag hq
  refine ⟨fun b hb => ?high, fun a hd => ?down, fun a hup ho => ?foreign,
    fun b pairs => ⟨fun hbad => ?fields, ?owner⟩⟩
  case high =>
    exact ⟨request_of_refuse hq tag (.antUp b) 0x01 rfl (antennaRequest_of_high hb),
      request_of_refuse hq tag (.antDown b) 0x02 rfl (antennaRequest_of_high hb),
      request_of_refuse hq tag (.antDrain b) 0x03 rfl (antennaRequest_of_high hb),
      request_of_refuse hq tag (.antReopen b) 0x04 rfl (antennaRequest_of_high hb),
      request_of_refuse hq tag (.queryAntenna b) 0x19 rfl (by
        simp [perform, Request.make, doQueryAntenna, antennaOf?_of_high hb])⟩
  case down =>
    have idle : antennaOk a s = { state := s, status := .ok, fields := [byteOf a.val] } := by
      simp [antennaOk_eq, hd, AntennaState.code]
    exact ⟨request_of_perform hq tag (.antDown _) 0x02 rfl ((antennaRequest_of_down hd).trans idle),
      request_of_refuse hq tag (.antDrain _) 0x03 rfl (antennaRequest_of_down hd),
      request_of_refuse hq tag (.antReopen _) 0x04 rfl (antennaRequest_of_down hd)⟩
  case foreign =>
    exact ⟨request_of_refuse hq tag (.antDown _) 0x02 rfl (antennaRequest_of_foreign hup ho),
      request_of_refuse hq tag (.antDrain _) 0x03 rfl (antennaRequest_of_foreign hup ho),
      request_of_refuse hq tag (.antReopen _) 0x04 rfl (antennaRequest_of_foreign hup ho)⟩
  case fields =>
    refine request_of_perform hq tag (.levels b pairs) 0x0A rfl ?_
    simp [perform, Request.make, doLevels, levelsFields_eq_none hbad]
  case owner =>
    rintro a rfl hne hlen hvalid ho
    refine request_of_perform hq tag (.levels _ pairs) 0x0A rfl ?_
    simp [perform, Request.make, doLevels, levelsFields_byteOf a hne hlen hvalid, ho]

/-! ### ANT UP (R25) -/

/-- Settles O21: the DOWN antenna by `bringUp`, whose result is the state that the statement writes out. -/
theorem antUpBringsAnAntennaUp : Obligations.AntUpBringsAnAntennaUp := by
  intro s l tag a hq
  refine ⟨fun hd => ?down, fun hup ho => ?own, fun hup ho => ?foreign⟩
  case down =>
    have active : ((bringUp l a s).ant a).state = .active := by simp [bringUp, Antenna.up]
    have answer : doAntUp l (byteOf a.val) s =
        { state := bringUp l a s, status := .ok, fields := [64 + byteOf a.val] } := by
      rw [doAntUp, antennaRequest_of_down hd, antennaOk_eq, active]
      rfl
    exact request_of_perform hq tag (.antUp _) 0x01 rfl answer
  case own =>
    exact request_of_perform hq tag (.antUp _) 0x01 rfl ((antennaRequest_of_owner hup ho).trans (antennaOk_eq a s))
  case foreign => exact request_of_refuse hq tag (.antUp _) 0x01 rfl (antennaRequest_of_foreign hup ho)

end Sys2Proof.Machine
end

section
/-! QUERY ANTENNA (R39): the plan fields, with their group records byte by byte (R168). -/

namespace Sys2Proof.Machine

/-! ### The carriage set (R59) -/

/-- The bits that a walk over some channels sets: those it held before, and those of the channels with a count. -/
theorem getLsbD_foldl_carriage (v : Vector Nat 16) (c : Fin 16) : ∀ (l : List (Fin 16)) (set : ListenSet),
    (l.foldl (fun (set : ListenSet) ch => if v.get ch = 0 then set else set ||| (1 <<< ch.val)) set).getLsbD c.val =
        true ↔
      set.getLsbD c.val = true ∨ (c ∈ l ∧ v.get c ≠ 0)
  | [], set => by simp
  | ch :: rest, set => by
    have bit : (((1 <<< ch.val : Nat) : ListenSet)).getLsbD c.val = true ↔ c = ch := by
      change (BitVec.ofNat 16 (1 <<< ch.val)).getLsbD c.val = true ↔ c = ch
      rw [BitVec.getLsbD_ofNat, Nat.one_shiftLeft, Nat.testBit_two_pow]
      simp [Fin.ext_iff, eq_comm]
    rw [List.foldl_cons, getLsbD_foldl_carriage v c rest, List.mem_cons]
    by_cases h : v.get ch = 0
    · have : c = ch → v.get c = 0 := fun e => e ▸ h
      simp only [h, if_true]
      tauto
    · have : c = ch → v.get c ≠ 0 := fun e => e ▸ h
      simp only [h, if_false, BitVec.getLsbD_or, Bool.or_eq_true, bit]
      tauto

/-- The carriage set holds the channels whose count is not 0 (R59). -/
theorem getLsbD_carriageSet (v : Vector Nat 16) (c : Fin 16) :
    (carriageSet v).getLsbD c.val = true ↔ v.get c ≠ 0 := by
  rw [carriageSet, getLsbD_foldl_carriage]
  simp [mem_ascending]

/-! ### Group records (R168) -/

/-- The entries of a vector are its values at the indexes in ascending order. -/
theorem toList_eq_map_get {α : Type} {n : Nat} (v : Vector α n) : v.toList = (List.finRange n).map v.get := by
  apply List.ext_getElem <;> simp [Vector.get_eq_getElem]

/-- The bytes of a group position: its group record, none where it is empty (R168). -/
def groupBytes (s : State) (plan : Vector Group 16) (g : GroupIx) : List Byte := (groupRecord s plan g).getD []

theorem groupBytes_of_empty {s : State} {plan : Vector Group 16} {g : GroupIx} (h : (plan.get g).isEmpty = true) :
    groupBytes s plan g = [] := by
  simp [groupBytes, groupRecord, h]

theorem groupBytes_of_seated {s : State} {plan : Vector Group 16} {g : GroupIx} (h : (plan.get g).isEmpty = false) :
    groupBytes s plan g = byteOf g.val :: byteOf (groupSeats s (plan.get g)).length ::
      (groupSeats s (plan.get g)).flatten := by
  simp [groupBytes, groupRecord, h]

/-- The group records one after another are the bytes of the positions one after another. -/
theorem flatten_groupRecords (s : State) (plan : Vector Group 16) : ∀ l : List GroupIx,
    (l.filterMap (groupRecord s plan)).flatten = l.flatMap (groupBytes s plan)
  | [] => rfl
  | g :: rest => by
    rw [List.flatMap_cons, ← flatten_groupRecords s plan rest, groupBytes, List.filterMap_cons]
    cases groupRecord s plan g <;> simp

/-- There is one group record for each position that is not empty. -/
theorem length_groupRecords (s : State) (plan : Vector Group 16) (l : List GroupIx) :
    (l.filterMap (groupRecord s plan)).length = ((l.map plan.get).filter fun g => !g.isEmpty).length := by
  induction l with
  | nil => rfl
  | cons g rest ih =>
    cases h : (plan.get g).isEmpty <;> simp [groupRecord, h, ih]

/-- A seat record has four bytes (R168). -/
theorem length_seatBytes (s : State) (n : Nat) (x : Seat) : (seatBytes s n x).length = 4 := rfl

/-- The seat records of a group, four bytes each. -/
theorem length_flatten_groupSeats (s : State) (g : Group) :
    (groupSeats s g).flatten.length = 4 * (g.seat0.toList.length + g.seat1.toList.length) := by
  cases h0 : g.seat0 <;> cases h1 : g.seat1 <;> simp [groupSeats, h0, h1, length_seatBytes]

/-- Two bytes for each position that is not empty, and four for each seat. -/
theorem length_flatMap_groupBytes (s : State) (plan : Vector Group 16) (l : List GroupIx) :
    (l.flatMap (groupBytes s plan)).length = 2 * ((l.map plan.get).filter fun g => !g.isEmpty).length +
      4 * ((l.map plan.get).map fun g => g.seat0.toList.length + g.seat1.toList.length).sum := by
  induction l with
  | nil => rfl
  | cons g rest ih =>
    rw [List.flatMap_cons, List.length_append, ih]
    simp only [List.map_cons, List.sum_cons]
    cases h : (plan.get g).isEmpty with
    | true =>
      obtain ⟨h0, h1⟩ : (plan.get g).seat0 = none ∧ (plan.get g).seat1 = none := by
        simpa [Group.isEmpty] using h
      simp [groupBytes_of_empty h, h, h0, h1]
    | false =>
      rw [groupBytes_of_seated h, List.filter_cons_of_pos (by simp [h])]
      simp only [List.length_cons, length_flatten_groupSeats]
      omega

/-! ### Seat records of headsets on the roster (R168) -/

/-- The seat record of a headset on the roster; no bytes where its record is FREE (R168). -/
def State.seatRecord (s : State) (n : Nat) (x : Seat) : List Byte :=
  match s.rec? x.headset with
  | none => []
  | some r => bytes24 r.id ++
    [byteOf ((if x.kind = .reserved then 128 else 0) + (if x.burst = r.profile.talkBurst then 64 else 0) + 16 * n +
      r.profile.number)]

/-- Where the seat's record is not FREE its four bytes are that record's (R168). -/
theorem seatBytes_eq_seatRecord {s : State} {x : Seat} (h : s.rec? x.headset ≠ none) (n : Nat) :
    seatBytes s n x = s.seatRecord n x := by
  unfold seatBytes seatIdentity State.seatRecord
  cases hr : s.rec? x.headset with
  | none => exact absurd hr h
  | some r => rfl

/-- A position whose seats belong to records: nothing where it is empty, else the index, the seat count and the seat
records in ascending seat number (R168). -/
theorem groupBytes_eq_seatRecords {s : State} {plan : Vector Group 16} {g : GroupIx}
    (h : ∀ n x, (plan.get g).seat n = some x → s.rec? x.headset ≠ none) :
    groupBytes s plan g =
      let seats := (plan.get g).seat0.toList.map (s.seatRecord 0) ++ (plan.get g).seat1.toList.map (s.seatRecord 1)
      if (plan.get g).isEmpty then [] else byteOf g.val :: byteOf seats.length :: seats.flatten := by
  have h0 : (plan.get g).seat0.map (seatBytes s 0) = (plan.get g).seat0.map (s.seatRecord 0) :=
    Option.map_congr fun x hx => seatBytes_eq_seatRecord (h 0 x hx) 0
  have h1 : (plan.get g).seat1.map (seatBytes s 1) = (plan.get g).seat1.map (s.seatRecord 1) :=
    Option.map_congr fun x hx => seatBytes_eq_seatRecord (h 1 x hx) 1
  cases hempty : (plan.get g).isEmpty with
  | true => exact groupBytes_of_empty hempty
  | false =>
    simp only [groupBytes_of_seated hempty, groupSeats, h0, h1, Option.toList_map, Bool.false_eq_true, if_false]

/-- The plan fields in the groups of R168. -/
theorem planFields_eq (s : State) (a : AntennaId) :
    planFields s a = [64 * (s.ant a).state.code + byteOf a.val] ++ bytes16 s.frameNumber ++
      bytesOfNat16 (s.ant a).airtime ++ bytes16 (carriageSet (s.ant a).carriage) ++
      [byteOf ((s.ant a).plan.toList.filter fun g => !g.isEmpty).length] ++
      (List.finRange 16).flatMap (groupBytes s (s.ant a).plan) := by
  rw [planFields, antennaByte_eq, groupOrder, ascending_eq_finRange]
  simp only [length_groupRecords, flatten_groupRecords, ← toList_eq_map_get]

/-- Settles O26: the plan fields, their carriage set and their group records. -/
theorem queryAntennaReportsThePlan : Obligations.QueryAntennaReportsThePlan := by
  intro s l tag a hq
  dsimp only
  refine ⟨request_of_perform hq tag (.queryAntenna _) 0x19 rfl ?_, carriageSet (s.ant a).carriage,
    (List.finRange 16).flatMap (groupBytes s (s.ant a).plan), ?fields, getLsbD_carriageSet _, ?length,
    fun hrec => ?bytes⟩
  · simp [perform, Request.make, doQueryAntenna, antennaOf?_byteOf]
  case fields =>
    rw [planFields_eq]
    cases (s.ant a).state <;> rfl
  case length => rw [length_flatMap_groupBytes, ← toList_eq_map_get]
  case bytes =>
    congr 1
    funext g
    exact groupBytes_eq_seatRecords (hrec g)

end Sys2Proof.Machine
end

section
/-! Depth releases (R111): what the start of one QUEUED entry leaves of the handoff table, and the release as the starts
it makes, one after another. -/

namespace Sys2Proof.Machine

/-! ### An entry in its place in the table (R106, R107) -/

section
variable {s : State} {older newer : List Entry} {x : Entry}

/-- In a table without equal numbers the entries before and after an entry carry other numbers. -/
theorem num_ne_of_split (hn : (s.handoffs.map Entry.num).Nodup) (hs : s.handoffs = older ++ x :: newer) :
    (∀ y ∈ older, y.num ≠ x.num) ∧ ∀ y ∈ newer, y.num ≠ x.num := by
  rw [hs, List.map_append, List.map_cons, List.nodup_append, List.nodup_cons] at hn
  obtain ⟨-, ⟨hxn, -⟩, hdis⟩ := hn
  exact ⟨fun y hy => hdis _ (List.mem_map_of_mem hy) _ (List.mem_cons_self ..),
    fun y hy he => hxn (he ▸ List.mem_map_of_mem hy)⟩

/-- In a table without equal numbers an entry is found by its number. -/
theorem entry?_of_split (hn : (s.handoffs.map Entry.num).Nodup) (hs : s.handoffs = older ++ x :: newer) :
    s.entry? x.num = some x := by
  have hold := (num_ne_of_split hn hs).1
  rw [State.entry?, hs, List.find?_append, List.find?_eq_none.2 fun y hy => by simpa using hold y hy]
  simp

/-- The table without an entry. -/
theorem filter_num_of_split (hn : (s.handoffs.map Entry.num).Nodup) (hs : s.handoffs = older ++ x :: newer) :
    s.handoffs.filter (fun y => y.num != x.num) = older ++ newer := by
  obtain ⟨hold, hnew⟩ := num_ne_of_split hn hs
  rw [hs, List.filter_append, List.filter_cons_of_neg (by simp),
    List.filter_eq_self.2 fun y hy => by simpa using hold y hy,
    List.filter_eq_self.2 fun y hy => by simpa using hnew y hy]

/-- The table with one entry changed. -/
theorem map_num_of_split (hn : (s.handoffs.map Entry.num).Nodup) (hs : s.handoffs = older ++ x :: newer)
    (f : Entry → Entry) :
    (s.handoffs.map fun y => if y.num = x.num then f y else y) = older ++ f x :: newer := by
  obtain ⟨hold, hnew⟩ := num_ne_of_split hn hs
  have keep : ∀ l : List Entry, (∀ y ∈ l, y.num ≠ x.num) → (l.map fun y => if y.num = x.num then f y else y) = l :=
    fun l hl => (List.map_congr_left fun y hy => if_neg (hl y hy)).trans (List.map_id l)
  rw [hs, List.map_append, List.map_cons, keep older hold, keep newer hnew, if_pos rfl]

end

/-! ### The start of an entry (R110) -/

/-- The start of an entry leaves every antenna's owner (R110). -/
theorem startEntry_owner (e : EntryNo) (s : State) (a : AntennaId) : (startEntry e s).owner a = s.owner a := by
  cases he : s.entry? e with
  | none => simp [startEntry, he]
  | some x =>
    obtain rfl := State.entry?_num he
    cases hr : s.rec? x.headset with
    | none =>
      simp only [startEntry, he, hr]
      rw [State.freeEntry_of_some he, State.modRec_owner]
      rfl
    | some r =>
      have failed : ∀ b, (s.startFailed x r b).owner a = s.owner a := fun b => ((keyApplied_kept ..).2.1 a).2
      rw [startEntry_eq he hr]
      split
      · exact failed _
      · split
        · exact failed _
        · next p _ =>
          exact ((modAnt_kept (s := s) (a := x.target) (f := Antenna.occupied s.params p.group p.seat
            { headset := x.headset, kind := .reserved, burst := r.currentBurst } r.listen) ⟨rfl, rfl⟩).2.1 a).2

/-- The entry once started, with its reserved seat placed at p (R110, step 3). -/
def Entry.preparing (p : Placement) (x : Entry) : Entry :=
  { x with phase := .preparing, reserved := some (p.group, p.seat), prepareDue := true, prepTimer := some Timer.start }

/-- A start either frees the entry or makes it PREPARING in its place; the others stand (R110). -/
theorem startEntry_handoffs {s : State} {older newer : List Entry} {x : Entry}
    (hn : (s.handoffs.map Entry.num).Nodup) (hs : s.handoffs = older ++ x :: newer) :
    (startEntry x.num s).handoffs = older ++ newer ∨
      ∃ y : Entry, y.num = x.num ∧ y.target = x.target ∧ y.phase = .preparing ∧
        (startEntry x.num s).handoffs = older ++ y :: newer := by
  have hx := entry?_of_split hn hs
  have freed := filter_num_of_split hn hs
  cases hr : s.rec? x.headset with
  | none =>
    left
    simp only [startEntry, hx, hr]
    rw [State.freeEntry_of_some hx, State.modRec_handoffs, ← freed]
  | some r =>
    have failed : ∀ b, (s.startFailed x r b).handoffs = older ++ newer := fun b => (keyApplied_kept ..).1.trans freed
    rw [startEntry_eq hx hr]
    split
    · exact .inl (failed _)
    · split
      · exact .inl (failed _)
      · next p _ => exact .inr ⟨x.preparing p, rfl, rfl, rfl, map_num_of_split hn hs (Entry.preparing p)⟩

/-! ### The oldest QUEUED entry for a link (R111) -/

theorem queuedFor_iff {s : State} {k : LinkId} {x : Entry} :
    s.queuedFor k x = true ↔ x.phase = .queued ∧ s.owner x.target = some k := by
  simp [State.queuedFor]

/-- Which entries are QUEUED for a link depends on the owners alone. -/
theorem queuedFor_of_owner {s t : State} (h : ∀ a, t.owner a = s.owner a) (k : LinkId) :
    t.queuedFor k = s.queuedFor k := by
  funext x
  simp only [State.queuedFor, h]

/-- An entry of the link's depth (R109). -/
def State.startedFor (s : State) (k : LinkId) (x : Entry) : Bool := x.phase != .queued && s.owner x.target == some k

theorem depth_eq_countP (s : State) (k : LinkId) : s.depth k = s.handoffs.countP (s.startedFor k) :=
  List.countP_eq_length_filter.symm

/-- How many entries are QUEUED for a link. -/
def State.queuedCount (s : State) (k : LinkId) : Nat := s.handoffs.countP (s.queuedFor k)

/-- Entry x is the oldest QUEUED entry for link k, in a table without equal numbers. -/
structure OldestQueued (s : State) (k : LinkId) (older : List Entry) (x : Entry) (newer : List Entry) : Prop where
  nodup : (s.handoffs.map Entry.num).Nodup
  split : s.handoffs = older ++ x :: newer
  first : ∀ y ∈ older, s.queuedFor k y = false
  queued : s.queuedFor k x = true

namespace OldestQueued
variable {s : State} {k : LinkId} {older newer : List Entry} {x : Entry} (h : OldestQueued s k older x newer)
include h

theorem find : s.handoffs.find? (s.queuedFor k) = some x :=
  List.find?_eq_some_iff_append.2 ⟨h.queued, older, newer, h.split, fun y hy => by simp [h.first y hy]⟩

/-- Its start leaves a table without equal numbers. -/
theorem startEntry_nodup : ((startEntry x.num s).handoffs.map Entry.num).Nodup := by
  have hn := h.nodup
  rw [h.split] at hn
  rcases startEntry_handoffs h.nodup h.split with ht | ⟨y, hy, -, -, ht⟩
  · rw [ht]
    exact hn.sublist (((List.sublist_cons_self x newer).append_left older).map _)
  · rw [ht]
    simpa [hy] using hn

/-- Its start leaves one QUEUED entry fewer (R111). -/
theorem startEntry_queuedCount : s.queuedCount k = (startEntry x.num s).queuedCount k + 1 := by
  have before : s.queuedCount k = older.countP (s.queuedFor k) + (newer.countP (s.queuedFor k) + 1) := by
    rw [State.queuedCount, h.split, List.countP_append, List.countP_cons_of_pos h.queued]
  rw [before, State.queuedCount, queuedFor_of_owner (startEntry_owner x.num s)]
  rcases startEntry_handoffs h.nodup h.split with ht | ⟨y, -, -, hp, ht⟩
  · rw [ht, List.countP_append]
    omega
  · rw [ht, List.countP_append, List.countP_cons_of_neg (by simp [State.queuedFor, hp])]
    omega

/-- Its start raises the depth by at most 1 (R109). -/
theorem startEntry_depth : (startEntry x.num s).depth k ≤ s.depth k + 1 := by
  have owners : (startEntry x.num s).startedFor k = s.startedFor k := by
    funext y
    simp only [State.startedFor, startEntry_owner]
  have hx : ¬ s.startedFor k x = true := by simp [State.startedFor, (queuedFor_iff.1 h.queued).1]
  rw [depth_eq_countP, depth_eq_countP, owners, h.split, List.countP_append, List.countP_cons_of_neg hx]
  rcases startEntry_handoffs h.nodup h.split with ht | ⟨y, -, -, -, ht⟩
  · rw [ht, List.countP_append]
    omega
  · rw [ht, List.countP_append, List.countP_cons]
    split <;> omega

end OldestQueued

/-- With an entry QUEUED for the link there is an oldest one. -/
theorem exists_oldestQueued {s : State} {k : LinkId} (hn : (s.handoffs.map Entry.num).Nodup)
    (h : ∃ x ∈ s.handoffs, s.queuedFor k x = true) : ∃ older x newer, OldestQueued s k older x newer := by
  obtain ⟨x, hx⟩ := Option.isSome_iff_exists.1 (List.find?_isSome.2 h)
  obtain ⟨hq, older, newer, hs, hold⟩ := List.find?_eq_some_iff_append.1 hx
  exact ⟨older, x, newer, hn, hs, fun y hy => by simpa using hold y hy, hq⟩

/-! ### The release (R111) -/

/-- The link is at its depth, or no entry is QUEUED for it (R111). -/
def State.releaseDone (s : State) (k : LinkId) : Prop :=
  s.params.handoffDepth ≤ s.depth k ∨ ∀ x ∈ s.handoffs, s.queuedFor k x = false

/-- At its depth, or with no QUEUED entry for it, a link has nothing to start (R111). -/
theorem depthReleaseLoop_of_done {s : State} {k : LinkId}
    (h : s.releaseDone k) (n : Nat) :
    depthReleaseLoop k n s = s := by
  cases n with
  | zero => rfl
  | succ n =>
    unfold depthReleaseLoop
    rcases h with hd | hnone
    · rw [if_neg (by omega)]
    · rw [List.find?_eq_none.2 fun x hx => by simp [hnone x hx]]
      exact ite_self s

/-- Below its depth a link's oldest QUEUED entry is started (R111). -/
theorem depthReleaseLoop_of_oldest {s : State} {k : LinkId} {older newer : List Entry} {x : Entry}
    (hd : s.depth k < s.params.handoffDepth) (h : OldestQueued s k older x newer) (n : Nat) :
    depthReleaseLoop k (n + 1) s = depthReleaseLoop k n (startEntry x.num s) := by
  rw [depthReleaseLoop, if_pos hd, h.find]

/-- The link is done, or below its depth with an oldest QUEUED entry. -/
theorem done_or_oldestQueued {s : State} (hn : (s.handoffs.map Entry.num).Nodup) (k : LinkId) :
    s.releaseDone k ∨ s.depth k < s.params.handoffDepth ∧ ∃ older x newer, OldestQueued s k older x newer := by
  by_cases hd : s.params.handoffDepth ≤ s.depth k
  · exact .inl (.inl hd)
  · by_cases hq : ∃ x ∈ s.handoffs, s.queuedFor k x = true
    · exact .inr ⟨by omega, exists_oldestQueued hn hq⟩
    · exact .inl (.inr (by simpa using hq))

/-- A bound that covers the QUEUED entries is as good as any other: a release makes no more starts than that. -/
theorem depthReleaseLoop_eq_of_le {k : LinkId} : ∀ {n m : Nat} {s : State}, (s.handoffs.map Entry.num).Nodup →
    s.queuedCount k ≤ n → s.queuedCount k ≤ m → depthReleaseLoop k n s = depthReleaseLoop k m s := by
  intro n
  induction n with
  | zero =>
    intro m s _ h0 _
    have none : ∀ x ∈ s.handoffs, s.queuedFor k x = false := by
      simpa [State.queuedCount, List.countP_eq_zero] using h0
    rw [depthReleaseLoop_of_done (.inr none), depthReleaseLoop_of_done (.inr none)]
  | succ n ih =>
    intro m s hn hle hlem
    rcases done_or_oldestQueued hn k with hdone | ⟨hd, older, x, newer, h⟩
    · rw [depthReleaseLoop_of_done hdone, depthReleaseLoop_of_done hdone]
    · have hcount := h.startEntry_queuedCount
      obtain ⟨m, rfl⟩ : ∃ j, m = j + 1 := ⟨m - 1, by omega⟩
      rw [depthReleaseLoop_of_oldest hd h, depthReleaseLoop_of_oldest hd h]
      exact ih h.startEntry_nodup (by omega) (by omega)

/-- A release below depth is the start of the oldest QUEUED entry, and then the release of the state that it leaves
(R111). -/
theorem depthRelease_of_oldest {s : State} {k : LinkId} {older newer : List Entry} {x : Entry}
    (hd : s.depth k < s.params.handoffDepth) (h : OldestQueued s k older x newer) :
    depthRelease k s = depthRelease k (startEntry x.num s) := by
  have hlen : ∀ t : State, t.queuedCount k ≤ t.handoffs.length := fun t => List.countP_le_length
  have hcount := h.startEntry_queuedCount
  have hs := hlen s
  rw [depthRelease, depthReleaseLoop_eq_of_le (m := s.handoffs.length + 1) h.nodup hs (by omega),
    depthReleaseLoop_of_oldest hd h]
  exact depthReleaseLoop_eq_of_le h.startEntry_nodup (by omega) (hlen _)

/-- A release done for one link: what holds where nothing can be started, and of a state when it holds of the one after
the start of its oldest QUEUED entry, holds of every state. -/
theorem depthRelease_induction {k : LinkId} {P : State → Prop}
    (done : ∀ s : State, s.releaseDone k → P s)
    (start : ∀ (s : State) (older newer : List Entry) (x : Entry), s.depth k < s.params.handoffDepth →
      OldestQueued s k older x newer → P (startEntry x.num s) → P s) :
    ∀ s : State, (s.handoffs.map Entry.num).Nodup → P s := by
  have bounded : ∀ (n : Nat) (s : State), s.queuedCount k = n → (s.handoffs.map Entry.num).Nodup → P s := by
    intro n
    induction n with
    | zero =>
      intro s h0 _
      exact done s (.inr (by simpa [State.queuedCount, List.countP_eq_zero] using h0))
    | succ n ih =>
      intro s hc hn
      rcases done_or_oldestQueued hn k with hdone | ⟨hd, older, x, newer, h⟩
      · exact done s hdone
      · have hcount := h.startEntry_queuedCount
        exact start s older newer x hd h (ih _ (by omega) h.startEntry_nodup)
  exact fun s hn => bounded _ s rfl hn

/-- A release ends at the depth or with no entry QUEUED for the link (R111). -/
theorem depthRelease_ends (k : LinkId) (s : State) (hn : (s.handoffs.map Entry.num).Nodup) :
    (depthRelease k s).releaseDone k := by
  refine depthRelease_induction (k := k) (P := fun s => (depthRelease k s).releaseDone k) (fun s h => ?done)
    (fun s older newer x hd h ih => ?start) s hn
  case done => rwa [depthRelease, depthReleaseLoop_of_done h]
  case start => rwa [depthRelease_of_oldest hd h]

/-- A release never takes the depth above HANDOFF_DEPTH (R109). -/
theorem depthRelease_depth_le (k : LinkId) (s : State) (hn : (s.handoffs.map Entry.num).Nodup) :
    (depthRelease k s).depth k ≤ max (s.depth k) s.params.handoffDepth := by
  refine depthRelease_induction (k := k)
    (P := fun s => (depthRelease k s).depth k ≤ max (s.depth k) s.params.handoffDepth) (fun s h => ?done)
    (fun s older newer x hd h ih => ?start) s hn
  case done => rw [depthRelease, depthReleaseLoop_of_done h]; exact le_max_left ..
  case start =>
    have hdepth := h.startEntry_depth
    rw [(startEntry_rest x.num s).params] at ih
    rw [depthRelease_of_oldest hd h]
    omega

/-- Depth releases for CL0 to CL3 in turn (R31). -/
theorem depthReleaseAll_eq (s : State) :
    depthReleaseAll s = depthRelease 3 (depthRelease 2 (depthRelease 1 (depthRelease 0 s))) := by
  have order : linkOrder = [0, 1, 2, 3] := by decide
  rw [depthReleaseAll, order]
  rfl

theorem hasCandidate_eq_false {l : List Candidate} {a : AntennaId} :
    hasCandidate l a = false ↔ ∀ c ∈ l, c.antenna ≠ a := by
  simp [hasCandidate]

/-- Settles O52: the release by its end, its bound and its one step, the step's start by its three outcomes. -/
theorem depthReleasesStartWhatTheyCan : Obligations.DepthReleasesStartWhatTheyCan := by
  refine ⟨fun s k ⟨_, hn⟩ => ⟨?ends, depthRelease_depth_le k s hn, ?nothing, ?step⟩,
    fun s => ⟨rfl, fun _ => rfl, depthReleaseAll_eq s⟩⟩
  case ends =>
    rw [← (depthRelease_rest k s).params]
    exact (depthRelease_ends k s hn).imp id fun h x hx hp ho => by simpa [queuedFor_iff.2 ⟨hp, ho⟩] using h x hx
  case nothing =>
    rintro (hd | hnone)
    · exact depthReleaseLoop_of_done (.inl hd) _
    · exact depthRelease_of_none hnone
  case step =>
    intro older x newer r hd hs hold hp ho hr
    have oldest : OldestQueued s k older x newer :=
      ⟨hn, hs, fun y hy => by simpa [State.queuedFor] using hold y hy, queuedFor_iff.2 ⟨hp, ho⟩⟩
    have step := depthRelease_of_oldest hd oldest
    rw [startEntry_eq (entry?_of_split hn hs) hr] at step
    refine ⟨fun hbad => ?_, fun hact hcand => ?_⟩
    · rwa [if_pos (hbad.imp id hasCandidate_eq_false.2)] at step
    · have hgood : ¬ ((s.ant x.target).state ≠ .active ∨ hasCandidate r.candidates x.target = false) := by
        rw [hasCandidate_eq_false]
        rintro (h | h)
        · exact h hact
        · obtain ⟨c, hc, hca⟩ := hcand
          exact h c hc hca
      rw [if_neg hgood] at step
      refine ⟨fun p hplace => ?_, fun hplace => ?_⟩
      · rwa [show place? s x.target r.currentBurst = some p from hplace] at step
      · rwa [show place? s x.target r.currentBurst = none from hplace] at step

end Sys2Proof.Machine
end

section
/-! ANT DRAIN and ANT REOPEN (R33 to R37): the inbound entries aborted one at a time, the walk over the headsets served at
the antenna, and the requests. -/

namespace Sys2Proof.Machine

/-! ### Inbound aborts (R33, step 2) -/

/-- The oldest inbound entry is aborted first, with return and its seat released (R33). -/
theorem abortInbound_recalled {s : State} {a : AntennaId} {older newer : List Entry} {x : Entry} (htab : TableInOrder s)
    (hs : s.handoffs = older ++ x :: newer) (hold : ∀ y ∈ older, y.target ≠ a) (hx : x.target = a) :
    abortInbound .released a s = abortInbound .released a (s.recalled x false) := by
  have hout : older.filter (fun y => y.target == a) = [] := by simpa using hold
  have hnow : inbound s a = x.num :: (newer.filter fun y => y.target == a).map Entry.num := by
    simp [inbound, hs, hout, hx]
  have hthen : inbound (s.recalled x false) a = (newer.filter fun y => y.target == a).map Entry.num := by
    rw [inbound, State.recalled_handoffs, filter_num_of_split htab.2 hs, List.filter_append, hout, List.nil_append]
  rw [abortInbound, abortInbound, hnow, hthen, List.foldl_cons, abortReturn_released (entry?_of_split htab.2 hs)]

/-! ### The walk (R34) -/

/-- A record without candidates is offered no target (R104). -/
theorem evaluate_of_no_candidates {s : State} {i : RosterIx} {r : Record} (hr : s.rec? i = some r)
    (hc : r.candidates = []) (waive : Bool) : evaluate waive i s = s := by
  have none : evaluationTarget waive s r = none := by simp [evaluationTarget, hc]
  simp [evaluate, hr, none]

/-- Where no headset served at the antenna holds a candidate the walk changes nothing (R34). -/
theorem drainWalk_of_no_candidates {s : State} {a : AntennaId}
    (h : ∀ i r, s.rec? i = some r → servedAt r a = true → r.candidates = []) : drainWalk a s = s := by
  refine rosterWalk_fixed fun i => ?_
  unfold drainOffer
  split
  · rfl
  · next r hr =>
    split
    · next hserved => exact evaluate_of_no_candidates hr (h i r hr hserved) true
    · rfl

/-! ### The drain (R33, R36) -/

/-- The drain of an antenna with no entry in the table and no candidate at a headset served there: only the antenna's
state and its due flag change. -/
theorem startDrain_of_idle {s : State} {a : AntennaId} (h : s.handoffs = [])
    (hc : ∀ i r, s.rec? i = some r → servedAt r a = true → r.candidates = []) :
    startDrain a s = s.modAnt a fun x =>
      { x with state := if planEmpty x.plan then .closed else .draining, planDue := true } := by
  have hin : abortInbound .released a (setAntennaState a .draining s) = setAntennaState a .draining s :=
    abortInbound_of_none (by simp [setAntennaState, h]) .released
  have hwalk : drainWalk a (setAntennaState a .draining s) = setAntennaState a .draining s :=
    drainWalk_of_no_candidates hc
  have hrel : depthReleaseAll (closureCheck a (setAntennaState a .draining s)) =
      closureCheck a (setAntennaState a .draining s) :=
    depthReleaseAll_of_none (by simp [closureCheck_eq, setAntennaState, h])
  rw [startDrain, hin, hwalk, hrel, closureCheck_eq, setAntennaState, State.modAnt_modAnt]
  refine congrArg (s.modAnt a) (funext fun x => ?_)
  by_cases hp : planEmpty x.plan = true <;> simp [hp]

/-! ### The requests -/

section
variable {l : LinkId} {a : AntennaId} {s : State}

/-- ANT DRAIN by the owner of an ACTIVE antenna (R33). -/
theorem doAntDrain_of_active (ho : s.owner a = some l) (h : (s.ant a).state = .active) :
    doAntDrain l (byteOf a.val) s = antennaOk a (startDrain a s) := by
  rw [doAntDrain, antennaRequest_of_owner (by simp [h]) ho, if_pos h]

/-- ANT DRAIN repeated (R33). -/
theorem doAntDrain_of_drained (ho : s.owner a = some l) (h : (s.ant a).state = .draining ∨ (s.ant a).state = .closed) :
    doAntDrain l (byteOf a.val) s = antennaOk a s := by
  have hup : (s.ant a).state ≠ .down := by rcases h with h | h <;> simp [h]
  have hact : (s.ant a).state ≠ .active := by rcases h with h | h <;> simp [h]
  rw [doAntDrain, antennaRequest_of_owner hup ho, if_neg hact]

/-- ANT REOPEN of a DRAINING or CLOSED antenna (R37). -/
theorem doAntReopen_of_drained (ho : s.owner a = some l)
    (h : (s.ant a).state = .draining ∨ (s.ant a).state = .closed) :
    doAntReopen l (byteOf a.val) s = antennaOk a (setAntennaState a .active s) := by
  have hup : (s.ant a).state ≠ .down := by rcases h with h | h <;> simp [h]
  have hact : (s.ant a).state ≠ .active := by rcases h with h | h <;> simp [h]
  rw [doAntReopen, antennaRequest_of_owner hup ho, if_neg hact]

/-- ANT REOPEN of an ACTIVE antenna (R37). -/
theorem doAntReopen_of_active (ho : s.owner a = some l) (h : (s.ant a).state = .active) :
    doAntReopen l (byteOf a.val) s = antennaOk a s := by
  rw [doAntReopen, antennaRequest_of_owner (by simp [h]) ho, if_pos h]

end

/-- Settles O23: the drain step by step and written out, ANT DRAIN repeated, ANT REOPEN, and the inbound aborts one at a
time. -/
theorem antDrainAndAntReopen : Obligations.AntDrainAndAntReopen := by
  refine ⟨fun s l tag a hq ho => ⟨fun hact => ?drain, fun hact h hc => ?idle, fun hd => ?again, fun hd => ?reopen,
    fun hact => ?active⟩, fun s a htab => ⟨fun older x newer hs hold hx => abortInbound_recalled htab hs hold hx,
      fun hnone => abortInbound_of_none hnone .released⟩⟩
  case drain =>
    have row := request_of_perform hq tag (.antDrain (byteOf a.val)) 0x03 rfl
      ((doAntDrain_of_active ho hact).trans (antennaOk_eq a _))
    rw [startDrain, closureCheck_eq, drainWalk, rosterOrder, ascending_eq_finRange] at row
    exact row
  case idle =>
    refine request_of_perform hq tag (.antDrain (byteOf a.val)) 0x03 rfl ((doAntDrain_of_active ho hact).trans ?_)
    rw [startDrain_of_idle h hc, antennaOk_eq, State.ant_modAnt_self]
    by_cases hp : planEmpty (s.ant a).plan = true <;> simp [hp, AntennaState.code]
  case again =>
    exact request_of_perform hq tag (.antDrain (byteOf a.val)) 0x03 rfl
      ((doAntDrain_of_drained ho hd).trans (antennaOk_eq a s))
  case reopen =>
    refine request_of_perform hq tag (.antReopen (byteOf a.val)) 0x04 rfl ((doAntReopen_of_drained ho hd).trans ?_)
    rw [antennaOk_eq, setAntennaState, State.ant_modAnt_self]
    rfl
  case active =>
    refine request_of_perform hq tag (.antReopen (byteOf a.val)) 0x04 rfl ((doAntReopen_of_active ho hact).trans ?_)
    rw [antennaOk_eq, hact]
    rfl

end Sys2Proof.Machine
end

section
/-! CARD RESTART (R38): several antennas going down one after another with an empty handoff table, and the request. -/

namespace Sys2Proof.Machine

/-! ### Several antennas going down -/

/-- The record after some antennas have gone down: lost where it was served at one of them (R13, R29). -/
def Record.lostAmong (l : List AntennaId) (r : Record) : Record := if l.any (servedAt r) then r.lost else r

/-- The state after some antennas have gone down with an empty handoff table: they are DOWN, the headsets served there
are lost. -/
def State.takenDown (s : State) (l : List AntennaId) : State :=
  { s with
    roster := s.roster.map (Option.map (Record.lostAmong l))
    antennas := Vector.ofFn fun b => if b ∈ l then Antenna.down else s.ant b }

theorem State.takenDown_nil (s : State) : s.takenDown [] = s := by
  have hroster : Record.lostAmong [] = id := rfl
  have hant : (Vector.ofFn fun b => if b ∈ ([] : List AntennaId) then Antenna.down else s.ant b) = s.antennas := by
    ext1 k hk
    simp [State.ant, Vector.get_eq_getElem]
  rw [State.takenDown, hroster, hant, Option.map_id, Vector.map_id]

/-- A record lost at one antenna is not lost again at others. -/
theorem lostAmong_lostAt (a : AntennaId) (l : List AntennaId) (r : Record) :
    (r.lostAt a).lostAmong l = r.lostAmong (a :: l) := by
  cases h : servedAt r a with
  | false => simp [Record.lostAmong, Record.lostAt, h]
  | true =>
    have gone : l.any (servedAt r.lost) = false := List.any_eq_false.2 fun b _ => by simp [servedAt, Record.lost]
    simp [Record.lostAmong, Record.lostAt, h, gone]

/-- One antenna going down before others is one more going down with them. -/
theorem takenDown_goDown {s : State} (h : s.handoffs = []) (a : AntennaId) (l : List AntennaId) :
    (goDown a s).takenDown l = s.takenDown (a :: l) := by
  have hroster : (s.roster.map (Option.map (Record.lostAt a))).map (Option.map (Record.lostAmong l)) =
      s.roster.map (Option.map (Record.lostAmong (a :: l))) := by
    rw [Vector.map_map, Option.map_comp_map]
    exact congrArg (fun f => s.roster.map (Option.map f)) (funext (lostAmong_lostAt a l))
  have hant : (fun b => if b ∈ l then Antenna.down else (goDown a s).ant b) =
      fun b => if b ∈ a :: l then Antenna.down else s.ant b := by
    funext b
    rw [goDown_of_empty_table h, State.ant_setAnt]
    by_cases hb : b ∈ l
    · simp [hb]
    · by_cases hab : a = b
      · simp [hab]
      · simp only [hb, hab, Ne.symm hab, List.mem_cons, or_self, if_false]
        rfl
  rw [State.takenDown, State.takenDown, hant, ← hroster, goDown_of_empty_table h]
  rfl

/-- Antennas going down one after another with an empty handoff table (R38). -/
theorem foldl_goDown_of_empty_table : ∀ (l : List AntennaId) {s : State}, s.handoffs = [] →
    l.foldl (fun t a => goDown a t) s = s.takenDown l
  | [], s, _ => s.takenDown_nil.symm
  | a :: rest, s, h => by
    have hnext : (goDown a s).handoffs = [] := by
      rw [goDown_of_empty_table h]
      exact h
    rw [List.foldl_cons, foldl_goDown_of_empty_table rest hnext, takenDown_goDown h]

/-! ### The antennas of a link (R22) -/

theorem ownedBy_eq (s : State) (l : LinkId) :
    ownedBy s l = (List.finRange 64).filter fun a => s.owner a == some l := by
  rw [ownedBy, antennaOrder, ascending_eq_finRange]

theorem mem_ownedBy {s : State} {l : LinkId} {a : AntennaId} : a ∈ ownedBy s l ↔ s.owner a = some l := by
  simp [ownedBy, antennaOrder, mem_ascending]

/-- A link owns as many antennas as there are antenna records that name it. -/
theorem length_ownedBy (s : State) (l : LinkId) :
    (ownedBy s l).length = (s.antennas.toList.filter fun x => x.owner == some l).length := by
  rw [ownedBy_eq, toList_eq_map_get, List.filter_map, List.length_map]
  rfl

/-- The record after the antennas of a link have gone down: lost where its serving antenna is the link's (R13, R38). -/
def Record.lostFrom (s : State) (l : LinkId) (r : Record) : Record :=
  match r.serving with
  | none => r
  | some v => if s.owner v.antenna = some l then r.lost else r

theorem lostAmong_ownedBy (s : State) (l : LinkId) : Record.lostAmong (ownedBy s l) = Record.lostFrom s l := by
  funext r
  unfold Record.lostFrom
  cases hv : r.serving with
  | none =>
    have : (ownedBy s l).any (servedAt r) = false := List.any_eq_false.2 fun b _ => by simp [servedAt, hv]
    simp [Record.lostAmong, this]
  | some v =>
    have : (ownedBy s l).any (servedAt r) = true ↔ s.owner v.antenna = some l := by
      rw [List.any_eq_true, ← mem_ownedBy]
      simp [servedAt, hv]
    simp only [Record.lostAmong, this]

/-- The state after the antennas of a link have gone down with an empty handoff table (R38). -/
theorem takenDown_ownedBy (s : State) (l : LinkId) :
    s.takenDown (ownedBy s l) = { s with
      roster := s.roster.map (Option.map (Record.lostFrom s l))
      antennas := s.antennas.map fun x => if x.owner = some l then Antenna.down else x } := by
  have hant : (Vector.ofFn fun b => if b ∈ ownedBy s l then Antenna.down else s.ant b) =
      s.antennas.map fun x => if x.owner = some l then Antenna.down else x := by
    ext1 k hk
    simp [mem_ownedBy, State.owner, State.ant, Vector.get_eq_getElem]
  rw [State.takenDown, lostAmong_ownedBy, hant]

/-- Settles O24: the antennas in ascending ID, and the whole state for an empty table. -/
theorem cardRestartTakesItsAntennasDown : Obligations.CardRestartTakesItsAntennasDown := by
  intro s l tag hq
  have row : exec (.cardRestart l tag) s = .next
      ((depthReleaseAll ((ownedBy s l).foldl (fun t a => goDown a t) s)).replied l 0x05 tag .ok
        [byteOf (ownedBy s l).length]) :=
    request_of_perform hq tag .cardRestart 0x05 rfl rfl
  refine ⟨by rwa [ownedBy_eq] at row, fun h => ?_⟩
  have settled : depthReleaseAll (s.takenDown (ownedBy s l)) = s.takenDown (ownedBy s l) :=
    depthReleaseAll_of_none (by simp [State.takenDown, h])
  rw [row, foldl_goDown_of_empty_table _ h, settled, length_ownedBy, takenDown_ownedBy]
  rfl

end Sys2Proof.Machine
end

section
/-! Frame plans: what writing one place does to the airtime (R43), the options of a placement and which of them is
chosen (R45, R47). -/

namespace Sys2Proof.Machine

/-! ### One place written (R41) -/

theorem get_putSeat (plan : Vector Group 16) (g h : GroupIx) (n : SeatNo) (x : Option Seat) :
    (putSeat plan g n x).get h = if g = h then (plan.get g).put n x else plan.get h := by
  simp [putSeat, Vector.get_eq_getElem, Vector.getElem_set, Fin.ext_iff]

@[simp] theorem Group.seat_put (g : Group) (n : SeatNo) (x : Option Seat) : (g.put n x).seat n = x := by
  unfold Group.seat Group.put
  split <;> rfl

/-- A group that holds one seat holds it at the one place, the other being free (R45). -/
theorem Group.lone?_eq_some {g : Group} {m : Seat} {n : SeatNo} :
    g.lone? = some (m, n) ↔ n = 0 ∧ g = ⟨none, some m⟩ ∨ n = 1 ∧ g = ⟨some m, none⟩ := by
  obtain ⟨x, y⟩ := g
  cases x <;> cases y <;> simp [Group.lone?, and_comm, eq_comm]

/-- A group with a free place holds one seat, or none (R45). -/
theorem Group.lone?_eq_none_iff {g : Group} {n : SeatNo} (h : g.seat n = none) :
    g.lone? = none ↔ g.isEmpty = true := by
  obtain ⟨x, y⟩ := g
  unfold Group.seat at h
  split at h
  · obtain rfl : x = none := h
    cases y <;> simp [Group.lone?, Group.isEmpty]
  · obtain rfl : y = none := h
    cases x <;> simp [Group.lone?, Group.isEmpty]

theorem Group.isEmpty_of_lone? {g : Group} {m : Seat} {n : SeatNo} (h : g.lone? = some (m, n)) : g.isEmpty = false := by
  rcases Group.lone?_eq_some.1 h with ⟨-, rfl⟩ | ⟨-, rfl⟩ <;> rfl

/-- An empty group stays empty unless a seat is written into a free place. -/
theorem Group.isEmpty_put {g : Group} {n : SeatNo} {x : Option Seat} (hx : g.seat n = none → x = none)
    (he : g.isEmpty = true) : (g.put n x).isEmpty = true := by
  obtain ⟨y, z⟩ := g
  simp only [Group.isEmpty, Bool.and_eq_true, Option.isNone_iff_eq_none] at he
  obtain ⟨rfl, rfl⟩ := he
  rw [hx (by unfold Group.seat; split <;> rfl)]
  unfold Group.put
  split <;> rfl

/-! ### The airtime of a group (R43) -/

theorem Group.time_put_le {g : Group} {n : SeatNo} {x : Option Seat} (hb : burstOf x ≤ burstOf (g.seat n)) :
    (g.put n x).time ≤ g.time := by
  unfold Group.seat at hb
  unfold Group.put
  split at hb
  · next hn =>
    rw [if_pos hn]
    exact max_le_max hb le_rfl
  · next hn =>
    rw [if_neg hn]
    exact max_le_max le_rfl hb

/-- A place written with no greater burst, and not where it was free, raises nothing that its group adds. -/
theorem Group.cost_put_le {g : Group} {n : SeatNo} {x : Option Seat} (hb : burstOf x ≤ burstOf (g.seat n))
    (hx : g.seat n = none → x = none) (guardTime : Nat) : (g.put n x).cost guardTime ≤ g.cost guardTime := by
  unfold Group.cost
  by_cases he : (g.put n x).isEmpty = true
  · rw [if_pos he]
    exact Nat.zero_le _
  · rw [if_neg he, if_neg (mt (Group.isEmpty_put hx) he)]
    exact Nat.add_le_add_right (Group.time_put_le hb) guardTime

/-- The group time of a join is the larger of the two bursts (R45). -/
theorem Group.time_join {g : Group} {m : Seat} {n : SeatNo} (h : g.lone? = some (m, n)) (x : Seat) :
    (g.put n (some x)).time = max m.burst x.burst := by
  rcases Group.lone?_eq_some.1 h with ⟨rfl, rfl⟩ | ⟨rfl, rfl⟩
  · exact max_comm ..
  · rfl

theorem Group.time_of_lone? {g : Group} {m : Seat} {n : SeatNo} (h : g.lone? = some (m, n)) : g.time = m.burst := by
  rcases Group.lone?_eq_some.1 h with ⟨-, rfl⟩ | ⟨-, rfl⟩
  · exact Nat.zero_max _
  · exact Nat.max_zero _

theorem Group.cost_join {g : Group} {m : Seat} {n : SeatNo} (h : g.lone? = some (m, n)) (x : Seat) (guardTime : Nat) :
    (g.put n (some x)).cost guardTime = g.cost guardTime + (x.burst - m.burst) := by
  have he : (g.put n (some x)).isEmpty = false := by
    unfold Group.put Group.isEmpty
    split <;> simp
  unfold Group.cost
  rw [he, Group.isEmpty_of_lone? h, Group.time_join h, Group.time_of_lone? h]
  simp only [Bool.false_eq_true, if_false]
  omega

theorem Group.cost_open {g : Group} (h : g.isEmpty = true) (n : SeatNo) (x : Seat) (guardTime : Nat) :
    (g.put n (some x)).cost guardTime = g.cost guardTime + (x.burst + guardTime) := by
  obtain ⟨y, z⟩ := g
  simp only [Group.isEmpty, Bool.and_eq_true, Option.isNone_iff_eq_none] at h
  obtain ⟨rfl, rfl⟩ := h
  unfold Group.put
  split <;> simp [Group.cost, Group.isEmpty, Group.time, burstOf]

/-! ### The airtime of a plan (R43) -/

theorem planCost_eq_sum (guardTime : Nat) (plan : Vector Group 16) :
    planCost guardTime plan = ∑ g : GroupIx, (plan.get g).cost guardTime := by
  rw [planCost, toList_eq_map_get, List.map_map, Fin.sum_univ_def]
  rfl

/-- A place written changes the airtime of the plan by what it changes of its group. -/
theorem planCost_putSeat (guardTime : Nat) (plan : Vector Group 16) (g : GroupIx) (n : SeatNo) (x : Option Seat) :
    planCost guardTime (putSeat plan g n x) + (plan.get g).cost guardTime =
      planCost guardTime plan + ((plan.get g).put n x).cost guardTime := by
  have split : ∀ q : Vector Group 16, planCost guardTime q =
      (q.get g).cost guardTime + ∑ h ∈ Finset.univ.erase g, (q.get h).cost guardTime := fun q => by
    rw [planCost_eq_sum, Finset.add_sum_erase _ (fun h => (q.get h).cost guardTime) (Finset.mem_univ g)]
  have rest : ∑ h ∈ Finset.univ.erase g, ((putSeat plan g n x).get h).cost guardTime =
      ∑ h ∈ Finset.univ.erase g, (plan.get h).cost guardTime :=
    Finset.sum_congr rfl fun h hh => by rw [get_putSeat, if_neg (Finset.ne_of_mem_erase hh).symm]
  rw [split plan, split (putSeat plan g n x), rest, get_putSeat, if_pos rfl]
  omega

/-- A place written with no greater burst raises no airtime. -/
theorem airtimeOf_putSeat_le {plan : Vector Group 16} {g : GroupIx} {n : SeatNo} {x : Option Seat}
    (hb : burstOf x ≤ burstOf ((plan.get g).seat n)) (hx : (plan.get g).seat n = none → x = none) (p : Params) :
    airtimeOf p (putSeat plan g n x) ≤ airtimeOf p plan := by
  have := planCost_putSeat p.guardTime plan g n x
  have := Group.cost_put_le hb hx p.guardTime
  unfold airtimeOf
  omega

/-! ### The options of a placement (R45) -/

/-- To join the group at a position: it holds one seat, the new one takes the free place. -/
def Placement.Joins (plan : Vector Group 16) (b : Nat) (p : Placement) : Prop :=
  ∃ m, (plan.get p.group).lone? = some (m, p.seat) ∧ p.increase = b - m.burst

/-- To open the lowest empty position at seat 0. -/
def Placement.Opens (plan : Vector Group 16) (guardTime b : Nat) (p : Placement) : Prop :=
  (plan.get p.group).isEmpty = true ∧ p.seat = 0 ∧ p.increase = b + guardTime ∧
    ∀ g, g < p.group → (plan.get g).isEmpty = false

theorem joinOption_eq_some {plan : Vector Group 16} {b : Nat} {g : GroupIx} {p : Placement} :
    joinOption plan b g = some p ↔ p.group = g ∧ p.Joins plan b := by
  obtain ⟨h, n, inc⟩ := p
  unfold joinOption Placement.Joins
  cases hl : (plan.get g).lone? with
  | none =>
    simp only [reduceCtorEq, false_iff]
    rintro ⟨rfl, m, hm, -⟩
    simp [hl] at hm
  | some q =>
    obtain ⟨m, free⟩ := q
    simp only [Option.some.injEq, Placement.mk.injEq]
    constructor
    · rintro ⟨rfl, rfl, rfl⟩
      exact ⟨rfl, m, hl, rfl⟩
    · rintro ⟨rfl, m', hm, rfl⟩
      rw [hl] at hm
      cases hm
      exact ⟨rfl, rfl, rfl⟩

theorem joinOption_eq_none {plan : Vector Group 16} {b : Nat} {g : GroupIx} :
    joinOption plan b g = none ↔ (plan.get g).lone? = none := by
  unfold joinOption
  cases (plan.get g).lone? <;> simp

theorem mem_joinOptions {plan : Vector Group 16} {b : Nat} {p : Placement} :
    p ∈ joinOptions plan b ↔ p.Joins plan b := by
  unfold joinOptions
  rw [List.mem_filterMap]
  exact ⟨fun ⟨g, _, h⟩ => (joinOption_eq_some.1 h).2,
    fun h => ⟨p.group, mem_ascending _, joinOption_eq_some.2 ⟨rfl, h⟩⟩⟩

/-- The joins stand in ascending group index. -/
theorem joinOptions_pairwise (plan : Vector Group 16) (b : Nat) :
    (joinOptions plan b).Pairwise fun p q => p.group < q.group := by
  unfold joinOptions
  rw [List.pairwise_filterMap]
  refine (ascending_pairwise 16).imp fun {g h} hgh p hp q hq => ?_
  obtain ⟨rfl, -⟩ := joinOption_eq_some.1 hp
  obtain ⟨rfl, -⟩ := joinOption_eq_some.1 hq
  exact hgh

/-- Below the first of the numbers with a property none has it. -/
theorem find?_ascending_lt {n : Nat} {p : Fin n → Bool} {i : Fin n} (h : (ascending n).find? p = some i) {j : Fin n}
    (hj : j < i) : p j = false := by
  obtain ⟨-, before, after, hl, hb⟩ := List.find?_eq_some_iff_append.1 h
  have hmem := mem_ascending j
  have hord := ascending_pairwise n
  rw [hl] at hmem hord
  rcases List.mem_append.1 hmem with hm | hm
  · simpa using hb j hm
  · rcases List.mem_cons.1 hm with rfl | hm
    · exact absurd hj (lt_irrefl _)
    · exact absurd hj ((List.pairwise_cons.1 (List.pairwise_append.1 hord).2.1).1 j hm).asymm

theorem openOption_eq_some {plan : Vector Group 16} {guardTime b : Nat} {p : Placement} :
    openOption plan guardTime b = some p ↔ p.Opens plan guardTime b := by
  obtain ⟨h, n, inc⟩ := p
  unfold openOption Placement.Opens
  constructor
  · intro ho
    split at ho
    · exact nomatch ho
    · next hg =>
      cases ho
      exact ⟨List.find?_some (p := fun g => (plan.get g).isEmpty) hg, rfl, rfl, fun k hk => find?_ascending_lt hg hk⟩
  · rintro ⟨he, hn, hi, hlow⟩
    obtain rfl : n = 0 := hn
    obtain rfl : inc = b + guardTime := hi
    have hf : groupOrder.find? (fun g => (plan.get g).isEmpty) = some h := find?_ascending he hlow
    rw [hf]

/-- An empty position is not joined. -/
theorem Placement.not_joins_of_empty {plan : Vector Group 16} {b : Nat} {p : Placement}
    (h : (plan.get p.group).isEmpty = true) : ¬ p.Joins plan b := by
  rintro ⟨m, hm, -⟩
  rw [Group.isEmpty_of_lone? hm] at h
  cases h

/-- A join adds its increase to the airtime (R43, R45). -/
theorem airtimeOf_putSeat_of_joins {plan : Vector Group 16} {x : Seat} {p : Placement} (h : p.Joins plan x.burst)
    (q : Params) : airtimeOf q (putSeat plan p.group p.seat (some x)) = airtimeOf q plan + p.increase := by
  obtain ⟨m, hm, hi⟩ := h
  have := planCost_putSeat q.guardTime plan p.group p.seat (some x)
  have := Group.cost_join hm x q.guardTime
  unfold airtimeOf
  omega

/-- A position opened adds its increase to the airtime (R43, R45). -/
theorem airtimeOf_putSeat_of_empty {plan : Vector Group 16} {x : Seat} {p : Placement} {q : Params}
    (h : (plan.get p.group).isEmpty = true) (hi : p.increase = x.burst + q.guardTime) :
    airtimeOf q (putSeat plan p.group p.seat (some x)) = airtimeOf q plan + p.increase := by
  have := planCost_putSeat q.guardTime plan p.group p.seat (some x)
  have := Group.cost_open h p.seat x q.guardTime
  unfold airtimeOf
  omega

/-! ### The option chosen (R45) -/

theorem smallest_eq_none {l : List Placement} : smallest l = none ↔ l = [] := by
  cases l with
  | nil => simp [smallest]
  | cons p rest =>
    unfold smallest
    split
    · simp
    · split <;> simp

/-- The option chosen is one of the smallest increase, and of those the first: it is before any other in whatever
order the options stand. -/
theorem smallest_first {R : Placement → Placement → Prop} : ∀ {l : List Placement} {p : Placement}, l.Pairwise R →
    smallest l = some p → p ∈ l ∧ ∀ q ∈ l, p.increase ≤ q.increase ∧ (p.increase = q.increase → p = q ∨ R p q)
  | [], _, _, h => nomatch h
  | d :: rest, p, hl, h => by
    rw [List.pairwise_cons] at hl
    obtain ⟨hd, hrest⟩ := hl
    unfold smallest at h
    split at h
    · next hn =>
      cases h
      simp [smallest_eq_none.1 hn]
    · next c hc =>
      obtain ⟨hmem, hleast⟩ := smallest_first hrest hc
      split at h
      · next hle =>
        cases h
        refine ⟨List.mem_cons_self, fun q hq => ?_⟩
        rcases List.mem_cons.1 hq with rfl | hq
        · exact ⟨le_rfl, fun _ => .inl rfl⟩
        · exact ⟨hle.trans (hleast q hq).1, fun _ => .inr (hd q hq)⟩
      · next hlt =>
        cases h
        refine ⟨List.mem_cons_of_mem d hmem, fun q hq => ?_⟩
        rcases List.mem_cons.1 hq with rfl | hq
        · exact ⟨by omega, fun he => absurd he.symm (by omega)⟩
        · exact hleast q hq

/-- The options of a placement: the joins, then the open (R45). -/
theorem mem_placementOptions {plan : Vector Group 16} {guardTime b : Nat} {p : Placement} :
    p ∈ joinOptions plan b ++ (openOption plan guardTime b).toList ↔ p.Joins plan b ∨ p.Opens plan guardTime b := by
  rw [List.mem_append, mem_joinOptions, Option.mem_toList, openOption_eq_some]

/-- A join stands before the open, and a join of a lower group before one of a higher (R45). -/
theorem placementOptions_pairwise (plan : Vector Group 16) (guardTime b : Nat) :
    (joinOptions plan b ++ (openOption plan guardTime b).toList).Pairwise fun p q =>
      q.Joins plan b → p.Joins plan b ∧ p.group ≤ q.group := by
  have last : ∀ q ∈ (openOption plan guardTime b).toList, ¬ q.Joins plan b := fun q hq =>
    Placement.not_joins_of_empty (openOption_eq_some.1 (Option.mem_toList.1 hq)).1
  rw [List.pairwise_append]
  refine ⟨?_, ?_, fun p _ q hq hj => absurd hj (last q hq)⟩
  · exact (joinOptions_pairwise plan b).imp_of_mem fun hp _ hlt _ => ⟨mem_joinOptions.1 hp, hlt.le⟩
  · exact List.Pairwise.imp_of_mem (R := fun _ _ => True) (fun _ hq _ hj => absurd hj (last _ hq))
      (List.pairwise_of_forall fun _ _ => trivial)

/-- The option that placement chooses (R45). -/
theorem choosePlacement_first {plan : Vector Group 16} {guardTime b : Nat} {p : Placement}
    (h : choosePlacement plan guardTime b = some p) :
    (p.Joins plan b ∨ p.Opens plan guardTime b) ∧
      (∀ q : Placement, q.Joins plan b ∨ q.Opens plan guardTime b → p.increase ≤ q.increase) ∧
      ∀ q : Placement, q.Joins plan b → p.increase = q.increase → p.Joins plan b ∧ p.group ≤ q.group := by
  obtain ⟨hmem, hleast⟩ := smallest_first (placementOptions_pairwise plan guardTime b) h
  refine ⟨mem_placementOptions.1 hmem, fun q hq => (hleast q (mem_placementOptions.2 hq)).1, fun q hq he => ?_⟩
  rcases (hleast q (mem_placementOptions.2 (.inl hq))).2 he with rfl | hbefore
  · exact ⟨hq, le_rfl⟩
  · exact hbefore hq

theorem place?_eq_some {s : State} {a : AntennaId} {b : Nat} {p : Placement} :
    place? s a b = some p ↔
      choosePlacement (s.ant a).plan s.params.guardTime b = some p ∧
        (s.ant a).airtime + p.increase ≤ limitOf s.params := by
  unfold place?
  cases choosePlacement (s.ant a).plan s.params.guardTime b with
  | none => simp
  | some q =>
    simp only [Option.ite_none_right_eq_some, Option.some.injEq]
    exact ⟨fun ⟨h, e⟩ => ⟨e, e ▸ h⟩, fun ⟨e, h⟩ => ⟨e ▸ h, e⟩⟩

/-- Placement fails exactly where not even its choice fits (R47). -/
theorem place?_eq_none {s : State} {a : AntennaId} {b : Nat} (h : place? s a b = none) {p : Placement}
    (hp : p.Joins (s.ant a).plan b ∨ p.Opens (s.ant a).plan s.params.guardTime b) :
    limitOf s.params < (s.ant a).airtime + p.increase := by
  cases hc : choosePlacement (s.ant a).plan s.params.guardTime b with
  | none =>
    have := mem_placementOptions.2 hp
    rw [smallest_eq_none.1 hc] at this
    cases this
  | some q =>
    obtain ⟨-, hleast, -⟩ := choosePlacement_first hc
    have hfull : ¬ (s.ant a).airtime + q.increase ≤ limitOf s.params := fun hfit => by
      rw [place?_eq_some.2 ⟨hc, hfit⟩] at h
      cases h
    have := hleast p hp
    omega

/-- Settles O45: the options stand with the joins first, in ascending group, and the first of the least is chosen. -/
theorem placementChoosesTheLeastIncrease : Obligations.PlacementChoosesTheLeastIncrease := by
  intro s a b plan isJoin isOpen first
  refine ⟨fun p hp => ?_, fun hn p hp => place?_eq_none hn hp, fun g m n x hl hx => ?_⟩
  · obtain ⟨hc, hfit⟩ := place?_eq_some.1 hp
    exact ⟨choosePlacement_first hc, hfit⟩
  · rw [Group.time_join hl, hx]

end Sys2Proof.Machine
end

section
/-! Re-placement of a keyed seat (R50, R51), and the queue trial that re-places the heads of a key wait queue one after
another (R55 to R57). -/

namespace Sys2Proof.Machine

/-! ### The options of a re-placement (R50) -/

/-- The antenna's plan with a serving seat set aside. -/
def State.planAside (s : State) (v : Serving) : Vector Group 16 :=
  putSeat (s.ant v.antenna).plan v.group v.seat none

theorem planAside_seat (s : State) (v : Serving) : ((s.planAside v).get v.group).seat v.seat = none := by
  simp [State.planAside, get_putSeat]

/-- To open: the seat's own place where it was alone, else the lowest empty position at seat 0 (R50). -/
def Placement.Reopens (aside : Vector Group 16) (guardTime t : Nat) (v : Serving) (p : Placement) : Prop :=
  p.increase = t + guardTime ∧
    if (aside.get v.group).isEmpty = true then p.group = v.group ∧ p.seat = v.seat
    else (aside.get p.group).isEmpty = true ∧ p.seat = 0 ∧ ∀ g, g < p.group → (aside.get g).isEmpty = false

theorem Placement.Reopens.isEmpty {aside : Vector Group 16} {guardTime t : Nat} {v : Serving} {p : Placement}
    (h : p.Reopens aside guardTime t v) : (aside.get p.group).isEmpty = true := by
  obtain ⟨-, h⟩ := h
  split at h
  · next he => rw [h.1, he]
  · exact h.1

section
variable {aside : Vector Group 16} {v : Serving} (hv : (aside.get v.group).seat v.seat = none)
include hv

/-- A headset that was alone in its group: the joins, then its own place (R50). -/
theorem replaceOptions_of_alone (he : (aside.get v.group).isEmpty = true) (guardTime t : Nat) :
    replaceOptions aside guardTime t v =
      joinOptions aside t ++ [{ group := v.group, seat := v.seat, increase := t + guardTime }] := by
  unfold replaceOptions
  rw [joinOption_eq_none.2 ((Group.lone?_eq_none_iff hv).2 he)]

/-- A headset with a partner: its own group beside it, then the other joins, then the open (R50). -/
theorem replaceOptions_of_partner (he : (aside.get v.group).isEmpty = false) (guardTime t : Nat) :
    ∃ stay : Placement, stay.group = v.group ∧ stay.Joins aside t ∧
      replaceOptions aside guardTime t v =
        stay :: ((joinOptions aside t).filter fun p => p.group != v.group) ++
          (openOption aside guardTime t).toList := by
  cases hj : joinOption aside t v.group with
  | none => rw [(Group.lone?_eq_none_iff hv).1 (joinOption_eq_none.1 hj)] at he; cases he
  | some stay =>
    obtain ⟨hg, hjoin⟩ := joinOption_eq_some.1 hj
    exact ⟨stay, hg, hjoin, by unfold replaceOptions; rw [hj]⟩

theorem mem_replaceOptions {guardTime t : Nat} {p : Placement} :
    p ∈ replaceOptions aside guardTime t v ↔ p.Joins aside t ∨ p.Reopens aside guardTime t v := by
  cases he : (aside.get v.group).isEmpty with
  | true =>
    rw [replaceOptions_of_alone hv he, List.mem_append, mem_joinOptions, List.mem_singleton]
    obtain ⟨g, n, inc⟩ := p
    simp [Placement.Reopens, he, and_comm, and_assoc]
  | false =>
    obtain ⟨stay, hg, hjoin, hopts⟩ := replaceOptions_of_partner hv he guardTime t
    have hopen : p.Opens aside guardTime t ↔ p.Reopens aside guardTime t v := by
      unfold Placement.Opens Placement.Reopens
      rw [he, if_neg Bool.false_ne_true]
      tauto
    rw [hopts, List.cons_append, List.mem_cons, List.mem_append, List.mem_filter, mem_joinOptions, Option.mem_toList,
      openOption_eq_some, hopen, ← or_assoc]
    refine or_congr_left ⟨?_, fun hp => ?_⟩
    · rintro (rfl | ⟨hp, -⟩)
      · exact hjoin
      · exact hp
    · by_cases hpg : p.group = v.group
      · have hstay := joinOption_eq_some.2 ⟨hg, hjoin⟩
        rw [joinOption_eq_some.2 ⟨hpg, hp⟩] at hstay
        exact .inl (Option.some.inj hstay)
      · exact .inr ⟨hp, by simpa using hpg⟩

/-- The order of equal options: a join goes before the open, the own group before the other joins, and these in
ascending group (R51). -/
theorem replaceOptions_pairwise (guardTime t : Nat) :
    (replaceOptions aside guardTime t v).Pairwise fun p q => q.Joins aside t →
      p.Joins aside t ∧ (q.group = v.group → p.group = v.group) ∧ (p.group ≠ v.group → p.group ≤ q.group) := by
  cases he : (aside.get v.group).isEmpty with
  | true =>
    rw [replaceOptions_of_alone hv he, List.pairwise_append]
    refine ⟨(joinOptions_pairwise aside t).imp_of_mem fun {p q} hp hq hlt _ => ?_, List.pairwise_singleton .., ?_⟩
    · refine ⟨mem_joinOptions.1 hp, fun hg => ?_, fun _ => hlt.le⟩
      exact absurd (mem_joinOptions.1 hq) (Placement.not_joins_of_empty (hg ▸ he))
    · intro p _ q hq hj
      rw [List.mem_singleton.1 hq] at hj
      exact absurd hj (Placement.not_joins_of_empty he)
  | false =>
    obtain ⟨stay, hg, hjoin, hopts⟩ := replaceOptions_of_partner hv he guardTime t
    have last : ∀ q ∈ (openOption aside guardTime t).toList, ¬ q.Joins aside t := fun q hq =>
      Placement.not_joins_of_empty (openOption_eq_some.1 (Option.mem_toList.1 hq)).1
    have other : ∀ {q}, q ∈ (joinOptions aside t).filter (fun p => p.group != v.group) →
        q.Joins aside t ∧ q.group ≠ v.group := fun hq => by
      obtain ⟨hmem, hne⟩ := List.mem_filter.1 hq
      exact ⟨mem_joinOptions.1 hmem, by simpa using hne⟩
    rw [hopts, List.cons_append, List.pairwise_cons, List.pairwise_append]
    refine ⟨fun q _ _ => ⟨hjoin, fun _ => hg, fun hne => absurd hg hne⟩, ?_, ?_,
      fun p _ q hq hj => absurd hj (last q hq)⟩
    · exact ((joinOptions_pairwise aside t).filter _).imp_of_mem fun hp hq hlt _ =>
        ⟨(other hp).1, fun hqg => absurd hqg (other hq).2, fun _ => hlt.le⟩
    · exact List.Pairwise.imp_of_mem (R := fun _ _ => True) (fun _ hq _ hj => absurd hj (last _ hq))
        (List.pairwise_of_forall fun _ _ => trivial)

/-- The option that a re-placement takes (R51). -/
theorem smallest_replaceOptions {guardTime t : Nat} {p : Placement}
    (h : smallest (replaceOptions aside guardTime t v) = some p) :
    (p.Joins aside t ∨ p.Reopens aside guardTime t v) ∧
      ∀ q : Placement, q.Joins aside t ∨ q.Reopens aside guardTime t v → p.increase ≤ q.increase ∧
        (p.increase = q.increase → q.Joins aside t →
          p.Joins aside t ∧ (q.group = v.group → p.group = v.group) ∧ (p.group ≠ v.group → p.group ≤ q.group)) := by
  obtain ⟨hmem, hleast⟩ := smallest_first (replaceOptions_pairwise hv guardTime t) h
  refine ⟨(mem_replaceOptions hv).1 hmem, fun q hq => ?_⟩
  obtain ⟨hle, hties⟩ := hleast q ((mem_replaceOptions hv).2 hq)
  refine ⟨hle, fun he hj => ?_⟩
  rcases hties he with rfl | hbefore
  · exact ⟨hj, id, fun _ => le_rfl⟩
  · exact hbefore hj

/-- The airtime after a re-placement (R43, R50). -/
theorem airtimeOf_rePlaced {x : Seat} {p : Placement} {q : Params}
    (h : smallest (replaceOptions aside q.guardTime x.burst v) = some p) :
    airtimeOf q (putSeat aside p.group p.seat (some x)) = airtimeOf q aside + p.increase := by
  rcases (smallest_replaceOptions hv h).1 with hj | ho
  · exact airtimeOf_putSeat_of_joins hj q
  · exact airtimeOf_putSeat_of_empty ho.isEmpty ho.1

end

/-! ### Re-placement (R50, R51) -/

/-- A re-placement fails exactly where its choice does not fit. -/
theorem rePlace?_eq_none {s : State} {i : RosterIx} {r : Record} {v : Serving} (hr : s.rec? i = some r)
    (hv : r.serving = some v) :
    rePlace? s i = none ↔
      ∀ p, smallest (replaceOptions (s.planAside v) s.params.guardTime r.profile.talkBurst v) = some p →
        limitOf s.params < airtimeOf s.params (s.planAside v) + p.increase := by
  unfold rePlace? State.planAside
  simp only [hr, hv]
  cases smallest _ with
  | none => simp
  | some p =>
    simp only [Option.some.injEq, forall_eq']
    split
    · next hfit => exact ⟨fun h => (nomatch h), fun h => absurd hfit (not_le.2 h)⟩
    · next hfull => exact ⟨fun _ => not_le.1 hfull, fun _ => rfl⟩

/-- It fails exactly where no option fits (R51). -/
theorem rePlace?_eq_none_iff {s : State} {i : RosterIx} {r : Record} {v : Serving} (hr : s.rec? i = some r)
    (hv : r.serving = some v) :
    rePlace? s i = none ↔
      ∀ q : Placement, q.Joins (s.planAside v) r.profile.talkBurst ∨
        q.Reopens (s.planAside v) s.params.guardTime r.profile.talkBurst v →
        limitOf s.params < airtimeOf s.params (s.planAside v) + q.increase := by
  have aside := planAside_seat s v
  rw [rePlace?_eq_none hr hv]
  refine ⟨fun h q hq => ?_, fun h p hp => h p (smallest_replaceOptions aside hp).1⟩
  cases hc : smallest (replaceOptions (s.planAside v) s.params.guardTime r.profile.talkBurst v) with
  | none =>
    have := (mem_replaceOptions aside).2 hq
    rw [smallest_eq_none.1 hc] at this
    cases this
  | some p =>
    have := h p hc
    have := ((smallest_replaceOptions aside hc).2 q hq).1
    omega

/-- Settles O46: of the options in their order the first of the least is taken, where it fits. -/
theorem rePlacementChoosesTheLeastIncrease : Obligations.RePlacementChoosesTheLeastIncrease := by
  intro s i r v _ hr hv aside talk isJoin isOpen first
  refine ⟨fun t moved ht => ?_, rePlace?_eq_none_iff hr hv⟩
  obtain ⟨r', v', p, hr', hv', hp, hfit, rfl, rfl⟩ := rePlace?_some ht
  obtain rfl : r = r' := Option.some.inj (hr.symm.trans hr')
  obtain rfl : v = v' := Option.some.inj (hv.symm.trans hv')
  refine ⟨p, smallest_replaceOptions (planAside_seat s v) hp, hfit, rfl, ?_, rfl⟩
  have air := airtimeOf_rePlaced (x := { headset := i, kind := .serving, burst := r.profile.talkBurst })
    (planAside_seat s v) hp
  rw [State.setRec_ant, State.setPlan, State.ant_modAnt_self]
  exact air

/-! ### The queue trial (R55 to R57) -/

/-- A re-placement turns the headset's key ON (R51). -/
theorem rePlace?_key {s t : State} {i : RosterIx} {moved : Bool} (h : rePlace? s i = some (t, moved)) :
    ∃ r, t.rec? i = some r ∧ r.key = .on := by
  obtain ⟨r, v, p, -, -, -, -, -, rfl⟩ := rePlace?_some h
  exact ⟨_, State.rec?_setRec_self .., rfl⟩

/-- A re-placement changes no record but the headset's. -/
theorem rePlace?_rec?_ne {s t : State} {i j : RosterIx} {moved : Bool} (h : rePlace? s i = some (t, moved))
    (hj : i ≠ j) : t.rec? j = s.rec? j := by
  obtain ⟨r, v, p, -, -, -, -, -, rfl⟩ := rePlace?_some h
  rw [State.rec?_setRec_ne _ _ hj, State.setPlan_rec?]

/-- The head of the queue is granted and leaves it (R57). -/
def State.headGranted (a : AntennaId) (rest : List RosterIx) (t : State) : State :=
  t.modAnt a fun x => { x with queue := rest, planDue := true }

theorem headGranted_queue (a : AntennaId) (rest : List RosterIx) (t : State) :
    ((t.headGranted a rest).ant a).queue = rest := by
  simp [State.headGranted]

section
variable {s : State} {a : AntennaId} {head : RosterIx} {rest : List RosterIx} (hq : (s.ant a).queue = head :: rest)
include hq

/-- A head that cannot be re-placed ends the trial (R57). -/
theorem queueTrial_of_failure (h : rePlace? s head = none) : queueTrial a s = s := by
  simp [queueTrial, hq, queueTrialLoop, h]

/-- A head that is granted leaves the trial to the next (R57). -/
theorem queueTrial_of_grant {t : State} {moved : Bool} (h : rePlace? s head = some (t, moved)) :
    queueTrial a s = queueTrial a (t.headGranted a rest) := by
  conv_lhs => unfold queueTrial
  rw [hq, List.length_cons, queueTrialLoop]
  simp only [hq, h]
  rw [queueTrial, headGranted_queue]
  rfl

end

/-- A trial goes on head by head: what holds where it stops and passes back over a grant holds of every trial. -/
theorem queueTrial_induction {a : AntennaId} {P : State → Prop} (empty : ∀ s, (s.ant a).queue = [] → P s)
    (failed : ∀ s head rest, (s.ant a).queue = head :: rest → rePlace? s head = none → P s)
    (granted : ∀ s head rest t moved, (s.ant a).queue = head :: rest → rePlace? s head = some (t, moved) →
      P (t.headGranted a rest) → P s) (s : State) : P s := by
  generalize hq : (s.ant a).queue = queue
  induction queue generalizing s with
  | nil => exact empty s hq
  | cons head rest ih =>
    cases hp : rePlace? s head with
    | none => exact failed s head rest hq hp
    | some p =>
      exact granted s head rest p.1 p.2 hq hp (ih _ (headGranted_queue ..))

/-- What a trial leaves: the granted headsets were the front of the queue and their keys are ON, the trial stopped at
an empty queue or at a head that cannot be re-placed, and no other record has changed (R57, R72). -/
def TrialEnds (a : AntennaId) (granted : List RosterIx) (s t : State) : Prop :=
  (s.ant a).queue = granted ++ (t.ant a).queue ∧
    ((t.ant a).queue = [] ∨ ∃ head rest, (t.ant a).queue = head :: rest ∧ rePlace? t head = none) ∧
    (∀ i r, t.rec? i = some r → i ∈ granted → r.key = .on) ∧
    (∀ i, i ∉ granted → t.rec? i = s.rec? i) ∧ t.handoffs = s.handoffs

theorem TrialEnds.of_stopped {a : AntennaId} {s : State}
    (h : (s.ant a).queue = [] ∨ ∃ head rest, (s.ant a).queue = head :: rest ∧ rePlace? s head = none) :
    TrialEnds a [] s s :=
  ⟨rfl, h, fun _ _ _ hi => absurd hi List.not_mem_nil, fun _ _ => rfl, rfl⟩

/-- A grant before a trial is a longer trial. -/
theorem TrialEnds.of_grant {a : AntennaId} {granted : List RosterIx} {s t u : State} {head : RosterIx}
    {rest : List RosterIx} {moved : Bool} (hq : (s.ant a).queue = head :: rest)
    (h : rePlace? s head = some (t, moved)) (ends : TrialEnds a granted (t.headGranted a rest) u) :
    TrialEnds a (head :: granted) s u := by
  obtain ⟨hqueue, hstop, hkeys, hothers, htable⟩ := ends
  rw [headGranted_queue] at hqueue
  refine ⟨by rw [hq, hqueue, List.cons_append], hstop, fun i r hi hmem => ?_, fun i hi => ?_,
    htable.trans (rePlace?_kept h).1⟩
  · by_cases hg : i ∈ granted
    · exact hkeys i r hi hg
    · obtain rfl : i = head := (List.mem_cons.1 hmem).resolve_right hg
      obtain ⟨q, hqr, hon⟩ := rePlace?_key h
      rw [hothers i hg, State.headGranted, State.modAnt_rec?, hqr] at hi
      cases hi
      exact hon
  · obtain ⟨hne, hg⟩ := not_or.1 (mt List.mem_cons.2 hi)
    rw [hothers i hg, State.headGranted, State.modAnt_rec?, rePlace?_rec?_ne h (Ne.symm hne)]

theorem exists_trialEnds (a : AntennaId) (s : State) : ∃ granted, TrialEnds a granted s (queueTrial a s) := by
  refine queueTrial_induction (a := a) (P := fun s => ∃ granted, TrialEnds a granted s (queueTrial a s))
    (fun s hq => ⟨[], ?_⟩) (fun s head rest hq hf => ⟨[], ?_⟩) (fun s head rest t moved hq hg ⟨granted, ends⟩ => ?_) s
  · rw [queueTrial_of_empty hq]
    exact .of_stopped (.inl hq)
  · rw [queueTrial_of_failure hq hf]
    exact .of_stopped (.inr ⟨head, rest, hq, hf⟩)
  · rw [queueTrial_of_grant hq hg]
    exact ⟨head :: granted, ends.of_grant hq hg⟩

/-- Settles O47, by induction over the heads of the queue. -/
theorem queueTrialsStopAtTheFirstFailure : Obligations.QueueTrialsStopAtTheFirstFailure := by
  intro s a
  exact ⟨rfl, queueTrial_of_empty,
    fun head rest hq => ⟨queueTrial_of_failure hq, fun t moved => queueTrial_of_grant hq⟩, exists_trialEnds a s⟩

end Sys2Proof.Machine
end

section
/-! The airtime law and the limit (R43, R44) under the shared operations of the Frame Planner, the Handoff Engine, the
Quality Filter, the Roster and the Antenna Table: one lemma for each, which says that it keeps both at every antenna. -/

namespace Sys2Proof.Machine

/-! ### The law and the limit at one antenna -/

/-- The airtime used is that of the plan, unless the antenna is DOWN (R43). -/
def Antenna.Exact (p : Params) (x : Antenna) : Prop := x.state ≠ .down → x.airtime = airtimeOf p x.plan

/-- The plan's airtime keeps within the limit, unless the antenna is DOWN (R44). -/
def Antenna.Fits (p : Params) (x : Antenna) : Prop := x.state ≠ .down → airtimeOf p x.plan ≤ limitOf p

theorem airtimeHolds_iff {s : State} :
    AirtimeHolds s ↔ ∀ a, (s.ant a).Exact s.params ∧ (s.ant a).Fits s.params := by
  refine forall_congr' fun a => ⟨fun h => ⟨fun hup => (h hup).1, fun hup => ?_⟩, fun ⟨hex, hfit⟩ hup => ⟨hex hup, ?_⟩⟩
  · rw [← (h hup).1]; exact (h hup).2
  · rw [hex hup]; exact hfit hup

/-- From s to t the parameters stand, and at every antenna the law is kept, and the limit is kept. -/
def PlansKept (s t : State) : Prop :=
  t.params = s.params ∧ ∀ a, ((s.ant a).Exact s.params → (t.ant a).Exact s.params) ∧
    ((s.ant a).Fits s.params → (t.ant a).Fits s.params)

/-- From s to t the parameters stand, and at every antenna the law and the limit are kept together. -/
def LimitKept (s t : State) : Prop :=
  t.params = s.params ∧ ∀ a, (s.ant a).Exact s.params ∧ (s.ant a).Fits s.params →
    (t.ant a).Exact s.params ∧ (t.ant a).Fits s.params

theorem PlansKept.refl (s : State) : PlansKept s s := ⟨rfl, fun _ => ⟨id, id⟩⟩

theorem PlansKept.trans {s t u : State} (h : PlansKept s t) (k : PlansKept t u) : PlansKept s u := by
  obtain ⟨hp, ha⟩ := h
  obtain ⟨kp, ka⟩ := k
  rw [hp] at kp ka
  exact ⟨kp, fun a => ⟨(ka a).1 ∘ (ha a).1, (ka a).2 ∘ (ha a).2⟩⟩

theorem PlansKept.limitKept {s t : State} (h : PlansKept s t) : LimitKept s t :=
  ⟨h.1, fun a => And.imp (h.2 a).1 (h.2 a).2⟩

namespace LimitKept

theorem refl (s : State) : LimitKept s s := (PlansKept.refl s).limitKept

theorem trans {s t u : State} (h : LimitKept s t) (k : LimitKept t u) : LimitKept s u := by
  obtain ⟨hp, ha⟩ := h
  obtain ⟨kp, ka⟩ := k
  rw [hp] at kp ka
  exact ⟨kp, fun a => ka a ∘ ha a⟩

/-- A fold of operations that each keep the limit keeps it. -/
theorem foldl {α : Type} (f : State → α → State) (hf : ∀ s a, LimitKept s (f s a)) :
    ∀ (l : List α) (s : State), LimitKept s (l.foldl f s)
  | [], s => .refl s
  | a :: rest, s => (hf s a).trans (LimitKept.foldl f hf rest (f s a))

theorem airtimeHolds {s t : State} (h : LimitKept s t) (hs : AirtimeHolds s) : AirtimeHolds t := by
  rw [airtimeHolds_iff] at hs ⊢
  rw [h.1]
  exact fun a => h.2 a (hs a)

theorem paramsInRange {s t : State} (h : LimitKept s t) (hs : ParamsInRange s) : ParamsInRange t := by
  unfold ParamsInRange
  rw [h.1]
  exact hs

end LimitKept

/-! ### The state's own writes -/

theorem plansKept_of_antennas {s t : State} (hp : t.params = s.params) (ha : t.antennas = s.antennas) :
    PlansKept s t := by
  refine ⟨hp, fun a => ?_⟩
  rw [show t.ant a = s.ant a by unfold State.ant; rw [ha]]
  exact ⟨id, id⟩

theorem limitKept_of_antennas {s t : State} (hp : t.params = s.params) (ha : t.antennas = s.antennas) :
    LimitKept s t := (plansKept_of_antennas hp ha).limitKept

theorem setRec_limitKept (s : State) (i : RosterIx) (r : Option Record) : LimitKept s (s.setRec i r) :=
  limitKept_of_antennas rfl rfl

theorem modRec_limitKept (s : State) (i : RosterIx) (f : Record → Record) : LimitKept s (s.modRec i f) :=
  limitKept_of_antennas (State.modRec_params ..) (State.modRec_antennas ..)

theorem modEntry_limitKept (s : State) (e : EntryNo) (f : Entry → Entry) : LimitKept s (s.modEntry e f) :=
  limitKept_of_antennas rfl rfl

theorem modLink_limitKept (s : State) (l : LinkId) (f : Link → Link) : LimitKept s (s.modLink l f) :=
  limitKept_of_antennas rfl rfl

theorem freeEntry_limitKept (s : State) (e : EntryNo) : LimitKept s (s.freeEntry e) := by
  unfold State.freeEntry
  split
  · exact .refl s
  · exact .trans (t := { s with handoffs := s.handoffs.filter fun y => y.num != e })
      (limitKept_of_antennas rfl rfl) (modRec_limitKept ..)

theorem setKey_limitKept (i : RosterIx) (k : KeyState) (s : State) : LimitKept s (setKey i k s) := modRec_limitKept ..

/-- An antenna written without its plan and airtime, and not up from DOWN. -/
theorem modAnt_plansKept {s : State} {a : AntennaId} {f : Antenna → Antenna}
    (hplan : (f (s.ant a)).plan = (s.ant a).plan) (hair : (f (s.ant a)).airtime = (s.ant a).airtime)
    (hup : (s.ant a).state = .down → (f (s.ant a)).state = .down) : PlansKept s (s.modAnt a f) := by
  refine ⟨rfl, fun b => ?_⟩
  rw [State.ant_modAnt]
  split
  · next h =>
    subst h
    unfold Antenna.Exact Antenna.Fits
    rw [hplan, hair]
    exact ⟨fun h hs => h (mt hup hs), fun h hs => h (mt hup hs)⟩
  · exact ⟨id, id⟩

theorem modAnt_limitKept {s : State} {a : AntennaId} {f : Antenna → Antenna}
    (hplan : (f (s.ant a)).plan = (s.ant a).plan) (hair : (f (s.ant a)).airtime = (s.ant a).airtime)
    (hup : (s.ant a).state = .down → (f (s.ant a)).state = .down) : LimitKept s (s.modAnt a f) :=
  (modAnt_plansKept hplan hair hup).limitKept

theorem markDue_limitKept (s : State) (a : AntennaId) : LimitKept s (s.markDue a) := modAnt_limitKept rfl rfl id

theorem setCarriage_limitKept (s : State) (a : AntennaId) (c : Vector Nat 16) : LimitKept s (s.setCarriage a c) :=
  modAnt_limitKept rfl rfl id

/-- A plan written has its airtime recomputed (R43). -/
theorem setPlan_exact (s : State) (a : AntennaId) (plan : Vector Group 16) :
    ((s.setPlan a plan).ant a).Exact s.params := by
  rw [State.setPlan, State.ant_modAnt_self]
  exact fun _ => rfl

/-- A plan that keeps within the limit where the one before did. -/
theorem setPlan_plansKept {s : State} {a : AntennaId} {plan : Vector Group 16}
    (h : airtimeOf s.params (s.ant a).plan ≤ limitOf s.params → airtimeOf s.params plan ≤ limitOf s.params) :
    PlansKept s (s.setPlan a plan) := by
  refine ⟨rfl, fun b => ?_⟩
  by_cases hb : a = b
  · subst hb
    refine ⟨fun _ => setPlan_exact s a plan, fun hf => ?_⟩
    rw [State.setPlan, State.ant_modAnt_self]
    exact fun hup => h (hf hup)
  · rw [State.setPlan, State.ant_modAnt, if_neg hb]
    exact ⟨id, id⟩

/-- A place written with no greater burst keeps the limit. -/
theorem putSeat_plansKept {s : State} {a : AntennaId} {g : GroupIx} {n : SeatNo} {x : Option Seat}
    (hb : burstOf x ≤ burstOf (((s.ant a).plan.get g).seat n))
    (hx : ((s.ant a).plan.get g).seat n = none → x = none) :
    PlansKept s (s.setPlan a (putSeat (s.ant a).plan g n x)) :=
  setPlan_plansKept (airtimeOf_putSeat_le hb hx s.params).trans

/-! ### The Frame Planner -/

/-- A new seat that placement chose adds to the airtime the increase that placement allowed (R45, R47). -/
theorem airtimeOf_placed {s : State} {a : AntennaId} {x : Seat} {p : Placement} (h : place? s a x.burst = some p) :
    airtimeOf s.params (putSeat (s.ant a).plan p.group p.seat (some x)) =
      airtimeOf s.params (s.ant a).plan + p.increase := by
  rcases (choosePlacement_first (place?_eq_some.1 h).1).1 with hj | ⟨he, -, hi, -⟩
  · exact airtimeOf_putSeat_of_joins hj s.params
  · exact airtimeOf_putSeat_of_empty he hi

/-- Where placement fits the seat taken keeps the limit (R47, R48). -/
theorem takeSeat_limitKept {s : State} {a : AntennaId} {x : Seat} {p : Placement} (h : place? s a x.burst = some p)
    (listen : ListenSet) : LimitKept s (takeSeat a p x listen s) := by
  refine .trans (t := s.setPlan a (putSeat (s.ant a).plan p.group p.seat (some x))) ⟨rfl, fun b hb => ?_⟩
    (setCarriage_limitKept ..)
  by_cases hab : a = b
  · subst hab
    obtain ⟨hex, -⟩ := hb
    refine ⟨setPlan_exact s a _, ?_⟩
    rw [State.setPlan, State.ant_modAnt_self]
    intro hup
    have hfit := (place?_eq_some.1 h).2
    rw [hex hup, ← airtimeOf_placed h] at hfit
    exact hfit
  · rw [State.setPlan, State.ant_modAnt, if_neg hab]
    exact hb

theorem unseat_limitKept (a : AntennaId) (g : GroupIx) (n : SeatNo) (c : ListenSet) (s : State) :
    LimitKept s (unseat a g n c s) :=
  (putSeat_plansKept (Nat.zero_le _) fun _ => rfl).limitKept.trans (setCarriage_limitKept ..)

/-- A re-placement fits by its own check (R51). -/
theorem rePlace?_plansKept {s t : State} {i : RosterIx} {m : Bool} (h : rePlace? s i = some (t, m)) :
    PlansKept s t := by
  obtain ⟨r, v, p, -, -, hp, hfit, -, rfl⟩ := rePlace?_some h
  refine (setPlan_plansKept fun _ => ?_).trans (plansKept_of_antennas rfl rfl)
  have air := airtimeOf_rePlaced (x := { headset := i, kind := .serving, burst := r.profile.talkBurst })
    (planAside_seat s v) hp
  rw [State.planAside] at air
  exact air.trans_le hfit

theorem queueTrialLoop_plansKept (a : AntennaId) : ∀ (n : Nat) (s : State), PlansKept s (queueTrialLoop a n s)
  | 0, s => .refl s
  | n + 1, s => by
    unfold queueTrialLoop
    split
    · exact .refl s
    · split
      · exact .refl s
      · next h =>
        exact (rePlace?_plansKept h).trans ((modAnt_plansKept rfl rfl id).trans (queueTrialLoop_plansKept a n _))

theorem roomMade_plansKept (a : AntennaId) (s : State) : PlansKept s (roomMade a s) :=
  (plansKept_of_antennas (t := clearBlocked a s) rfl rfl).trans (queueTrialLoop_plansKept ..)

theorem roomMade_limitKept (a : AntennaId) (s : State) : LimitKept s (roomMade a s) :=
  (roomMade_plansKept a s).limitKept

theorem closureCheck_limitKept (a : AntennaId) (s : State) : LimitKept s (closureCheck a s) := by
  unfold closureCheck
  split
  · next h => exact modAnt_limitKept rfl rfl fun hd => by rw [hd] at h; exact nomatch h.1
  · exact .refl s

theorem releaseSeat_limitKept (a : AntennaId) (g : GroupIx) (n : SeatNo) (c : ListenSet) (s : State) :
    LimitKept s (releaseSeat a g n c s) :=
  (unseat_limitKept a g n c s).trans ((roomMade_limitKept ..).trans (closureCheck_limitKept ..))

theorem Profile.listenBurst_le (p : Profile) : p.listenBurst ≤ p.talkBurst := by
  cases p <;> decide

/-- A seat lowered, or left, carries no greater burst (R52). -/
theorem burstOf_lowered_le (p : Profile) (x : Option Seat) : burstOf (x.map (Seat.lowered p)) ≤ burstOf x := by
  cases x with
  | none => exact le_rfl
  | some y =>
    simp only [Option.map_some, burstOf, Seat.lowered]
    split
    · next h => rw [h]; exact p.listenBurst_le
    · exact le_rfl

theorem lowerSeat_limitKept (a : AntennaId) (g : GroupIx) (n : SeatNo) (p : Profile) (s : State) :
    LimitKept s (lowerSeat a g n p s) :=
  (putSeat_plansKept (burstOf_lowered_le ..) fun h => by rw [h]; rfl).limitKept.trans (roomMade_limitKept ..)

theorem convertSeat_limitKept (a : AntennaId) (g : GroupIx) (n : SeatNo) (r : Record) (s : State) :
    LimitKept s (convertSeat a g n r s) := by
  have converted : LimitKept s (s.setPlan a (putSeat (s.ant a).plan g n
      ((((s.ant a).plan.get g).seat n).map fun x => { x with kind := .serving }))) :=
    (putSeat_plansKept (by cases ((s.ant a).plan.get g).seat n <;> exact le_rfl) fun h => by rw [h]; rfl).limitKept
  unfold convertSeat
  dsimp only
  split
  · exact converted.trans (lowerSeat_limitKept ..)
  · exact converted

theorem leaveQueue_limitKept (a : AntennaId) (i : RosterIx) (s : State) : LimitKept s (leaveQueue a i s) :=
  modAnt_limitKept rfl rfl id

theorem joinQueue_limitKept (a : AntennaId) (i : RosterIx) (s : State) : LimitKept s (joinQueue a i s) :=
  (modAnt_limitKept rfl rfl id).trans (setKey_limitKept ..)

theorem keyPress_limitKept (i : RosterIx) (s : State) : LimitKept s (keyPress i s).1 := by
  unfold keyPress
  split
  · exact .refl s
  · split
    · next h =>
      dsimp only
      split
      · exact (rePlace?_plansKept h).limitKept.trans (roomMade_limitKept ..)
      · exact (rePlace?_plansKept h).limitKept
    · split
      · exact joinQueue_limitKept ..
      · exact setKey_limitKept ..

theorem applyPending_limitKept (i : RosterIx) (s : State) : LimitKept s (applyPending i s) := by
  unfold applyPending
  split
  · exact .refl s
  · split
    · exact keyPress_limitKept ..
    · exact .refl s

/-! ### The Handoff Engine -/

theorem modCandidate_limitKept (i : RosterIx) (a : AntennaId) (f : Candidate → Candidate) (s : State) :
    LimitKept s (modCandidate i a f s) := modRec_limitKept ..

theorem candidateDwell_limitKept (i : RosterIx) (a : AntennaId) (s : State) :
    LimitKept s (candidateDwell i a s) := by
  unfold candidateDwell
  split
  · exact .refl s
  · exact modCandidate_limitKept ..

theorem servingDwell_limitKept (i : RosterIx) (s : State) : LimitKept s (servingDwell i s) := by
  unfold servingDwell
  split
  · exact .refl s
  · exact modRec_limitKept ..

theorem removeEntry_limitKept (e : EntryNo) (i : RosterIx) (s : State) : LimitKept s (removeEntry e i s) :=
  (freeEntry_limitKept ..).trans ((modRec_limitKept ..).trans (applyPending_limitKept ..))

theorem markStarted_limitKept (e : EntryNo) (x : Entry) (p : Placement) (s : State) :
    LimitKept s (markStarted e x p s) :=
  (modEntry_limitKept ..).trans (modCandidate_limitKept ..)

theorem startEntry_limitKept (e : EntryNo) (s : State) : LimitKept s (startEntry e s) := by
  unfold startEntry
  split
  · exact .refl s
  · split
    · exact freeEntry_limitKept ..
    · split
      · exact removeEntry_limitKept ..
      · split
        · exact (modCandidate_limitKept ..).trans (removeEntry_limitKept ..)
        · next hp => exact (takeSeat_limitKept hp _).trans (markStarted_limitKept ..)

theorem depthReleaseLoop_limitKept (k : LinkId) : ∀ (n : Nat) (s : State), LimitKept s (depthReleaseLoop k n s)
  | 0, s => .refl s
  | n + 1, s => by
    unfold depthReleaseLoop
    split
    · split
      · exact .refl s
      · exact (startEntry_limitKept ..).trans (depthReleaseLoop_limitKept k n _)
    · exact .refl s

theorem depthRelease_limitKept (k : LinkId) (s : State) : LimitKept s (depthRelease k s) :=
  depthReleaseLoop_limitKept ..

theorem depthReleaseFor_limitKept (k : Option LinkId) (s : State) : LimitKept s (depthReleaseFor k s) := by
  unfold depthReleaseFor
  split
  · exact .refl s
  · exact depthRelease_limitKept ..

theorem depthReleaseAll_limitKept (s : State) : LimitKept s (depthReleaseAll s) :=
  .foldl _ (fun s k => depthRelease_limitKept k s) ..

theorem keyAtTrigger_limitKept (i : RosterIx) (s : State) : LimitKept s (keyAtTrigger i s) := by
  unfold keyAtTrigger
  split
  · exact .refl s
  · split
    · exact (leaveQueue_limitKept ..).trans (setKey_limitKept ..)
    · exact .refl s

theorem trigger_limitKept (i : RosterIx) (a : AntennaId) (s : State) : LimitKept s (trigger i a s) := by
  unfold trigger
  split
  · next v e _ _ =>
    dsimp only
    have entered : LimitKept s ((keyAtTrigger i s).modRec i fun r => { r with state := .handing, handoff := some e }) :=
      (keyAtTrigger_limitKept ..).trans (modRec_limitKept ..)
    split
    · exact entered.trans (limitKept_of_antennas rfl rfl)
    · exact entered.trans (.trans (t := { ((keyAtTrigger i s).modRec i fun r =>
        { r with state := .handing, handoff := some e }) with handoffs := _, seqCounter := _ })
        (limitKept_of_antennas rfl rfl) (startEntry_limitKept ..))
  · exact .refl s

theorem evaluate_limitKept (w : Bool) (i : RosterIx) (s : State) : LimitKept s (evaluate w i s) := by
  unfold evaluate
  split
  · exact .refl s
  · split
    · split
      · exact .refl s
      · exact trigger_limitKept ..
    · exact .refl s

theorem endReserved_limitKept (m : SeatEnd) (x : Entry) (s : State) : LimitKept s (endReserved m x s) := by
  unfold endReserved
  split
  · split
    · exact releaseSeat_limitKept ..
    · exact .refl s
    · exact unseat_limitKept ..
  · exact .refl s

theorem abortEntry_limitKept (m : SeatEnd) (e : EntryNo) (s : State) : LimitKept s (abortEntry m e s) := by
  unfold abortEntry
  split
  · exact .refl s
  · exact (endReserved_limitKept ..).trans ((modCandidate_limitKept ..).trans (freeEntry_limitKept ..))

theorem returnRecord_limitKept (x : Entry) (s : State) : LimitKept s (returnRecord x s) := by
  unfold returnRecord
  split
  · exact .refl s
  · dsimp only
    split
    · exact (modRec_limitKept ..).trans ((markDue_limitKept ..).trans (applyPending_limitKept ..))
    · exact (modRec_limitKept ..).trans (applyPending_limitKept ..)

theorem abortReturn_limitKept (m : SeatEnd) (e : EntryNo) (s : State) : LimitKept s (abortReturn m e s) := by
  unfold abortReturn
  split
  · exact .refl s
  · exact (abortEntry_limitKept ..).trans (returnRecord_limitKept ..)

theorem abortAndRelease_limitKept (e : EntryNo) (s : State) : LimitKept s (abortAndRelease e s) := by
  unfold abortAndRelease
  split
  · exact .refl s
  · exact (abortReturn_limitKept ..).trans (depthReleaseFor_limitKept ..)

theorem abortHeld_limitKept (m : SeatEnd) (r : Record) (s : State) : LimitKept s (abortHeld m r s) := by
  unfold abortHeld
  split
  · exact .refl s
  · exact abortEntry_limitKept ..

theorem releaseServing_limitKept (r : Record) (s : State) : LimitKept s (releaseServing r s) := by
  unfold releaseServing
  split
  · exact .refl s
  · exact releaseSeat_limitKept ..

theorem completeEntry_limitKept (e : EntryNo) (s : State) : LimitKept s (completeEntry e s) := by
  unfold completeEntry
  split
  · exact .refl s
  · split
    · dsimp only
      exact (releaseServing_limitKept ..).trans ((convertSeat_limitKept ..).trans ((modRec_limitKept ..).trans
        ((applyPending_limitKept ..).trans ((freeEntry_limitKept ..).trans (depthReleaseFor_limitKept ..)))))
    · exact .refl s

/-! ### The Quality Filter -/

theorem removeCandidate_limitKept (i : RosterIx) (a : AntennaId) (s : State) :
    LimitKept s (removeCandidate i a s) := by
  unfold removeCandidate
  split
  · exact .refl s
  · dsimp only
    split
    · exact modRec_limitKept ..
    · split
      · exact (modRec_limitKept ..).trans (removeEntry_limitKept ..)
      · exact modRec_limitKept ..

theorem handOn_limitKept (i : RosterIx) (a : AntennaId) (s : State) : LimitKept s (handOn i a s) := by
  unfold handOn
  split
  · exact .refl s
  · split
    · exact (candidateDwell_limitKept ..).trans (evaluate_limitKept ..)
    · exact candidateDwell_limitKept ..
    · exact modCandidate_limitKept ..

theorem insertCandidate_limitKept (i : RosterIx) (c : Candidate) (s : State) :
    LimitKept s (insertCandidate i c s) := modRec_limitKept ..

theorem updateCandidate_limitKept (i : RosterIx) (c : Candidate) (v : Byte) (s : State) :
    LimitKept s (updateCandidate i c v s) := modRec_limitKept ..

theorem candidateReport_limitKept (i : RosterIx) (a : AntennaId) (v : Byte) (s : State) :
    LimitKept s (candidateReport i a v s).1 := by
  unfold candidateReport
  split
  · exact .refl s
  · split
    · exact (updateCandidate_limitKept ..).trans (handOn_limitKept ..)
    · split
      · exact (insertCandidate_limitKept ..).trans (handOn_limitKept ..)
      · split
        · exact .refl s
        · split
          · exact (removeCandidate_limitKept ..).trans ((insertCandidate_limitKept ..).trans (handOn_limitKept ..))
          · exact .refl s

theorem servingUpdate_limitKept (i : RosterIx) (v : Byte) (s : State) : LimitKept s (servingUpdate i v s) :=
  modRec_limitKept ..

theorem servingEvaluation_limitKept (i : RosterIx) (s : State) : LimitKept s (servingEvaluation i s) := by
  unfold servingEvaluation
  split
  · exact .refl s
  · split
    · exact evaluate_limitKept ..
    · exact .refl s

theorem servingReport_limitKept (i : RosterIx) (v : Byte) (s : State) : LimitKept s (servingReport i v s) := by
  unfold servingReport
  split
  · exact .refl s
  · dsimp only
    refine LimitKept.trans ?_ ((servingDwell_limitKept ..).trans (servingEvaluation_limitKept ..))
    split
    · exact (servingUpdate_limitKept ..).trans (modRec_limitKept ..)
    · split
      · split
        · exact (servingUpdate_limitKept ..).trans (abortAndRelease_limitKept ..)
        · exact servingUpdate_limitKept ..
      · exact (servingUpdate_limitKept ..).trans (modRec_limitKept ..)

theorem readmit_limitKept (i : RosterIx) (a : AntennaId) (v : Byte) (r : Record) (s : State) :
    LimitKept s (readmit i a v r s).1 := by
  unfold readmit
  split
  · exact candidateReport_limitKept ..
  · next hp => exact (takeSeat_limitKept hp _).trans ((modRec_limitKept ..).trans (applyPending_limitKept ..))

theorem applyPair_limitKept (a : AntennaId) (p : HeadsetId × Byte) (s : State) :
    LimitKept s (applyPair a p s).1 := by
  unfold applyPair
  split
  · exact .refl s
  · split
    · exact .refl s
    · split
      · exact .refl s
      · exact servingReport_limitKept ..
      · exact completeEntry_limitKept ..
      · exact candidateReport_limitKept ..
      · exact readmit_limitKept ..

theorem applyPairs_limitKept (a : AntennaId) : ∀ (ps : List (HeadsetId × Byte)) (s : State),
    LimitKept s (applyPairs a ps s).1
  | [], s => .refl s
  | p :: rest, s => (applyPair_limitKept a p s).trans (applyPairs_limitKept a rest _)

/-! ### The Roster -/

theorem freeRecord_limitKept (i : RosterIx) (s : State) : LimitKept s (freeRecord i s) := setRec_limitKept ..

theorem leaveOwnQueue_limitKept (i : RosterIx) (r : Record) (s : State) : LimitKept s (leaveOwnQueue i r s) := by
  unfold leaveOwnQueue
  split
  · exact leaveQueue_limitKept ..
  · exact .refl s

theorem detachRecord_limitKept (i : RosterIx) (r : Record) (s : State) : LimitKept s (detachRecord i r s) :=
  (abortHeld_limitKept ..).trans ((leaveOwnQueue_limitKept ..).trans ((releaseServing_limitKept ..).trans
    ((freeRecord_limitKept ..).trans (depthReleaseFor_limitKept ..))))

theorem keyAtLoss_limitKept (i : RosterIx) (r : Record) (s : State) : LimitKept s (keyAtLoss i r s) := by
  unfold keyAtLoss
  split
  · exact (leaveOwnQueue_limitKept ..).trans (setKey_limitKept ..)
  · exact setKey_limitKept ..
  · exact .refl s
  · exact .refl s

theorem enterAdrift_limitKept (m : SeatEnd) (i : RosterIx) (s : State) : LimitKept s (enterAdrift m i s) := by
  unfold enterAdrift
  split
  · exact .refl s
  · dsimp only
    refine LimitKept.trans ?_ (modRec_limitKept ..)
    split
    · exact (keyAtLoss_limitKept ..).trans (releaseServing_limitKept ..)
    · exact keyAtLoss_limitKept ..

theorem serveLostExpiry_limitKept (i : RosterIx) (s : State) : LimitKept s (serveLostExpiry i s) := by
  unfold serveLostExpiry
  split
  · exact .refl s
  · exact (abortHeld_limitKept ..).trans ((enterAdrift_limitKept ..).trans (depthReleaseFor_limitKept ..))

theorem retainExpiry_limitKept (i : RosterIx) (s : State) : LimitKept s (retainExpiry i s) := by
  unfold retainExpiry
  split
  · exact .refl s
  · exact (abortHeld_limitKept ..).trans ((freeRecord_limitKept ..).trans (depthReleaseFor_limitKept ..))

theorem changeListen_limitKept (i : RosterIx) (r : Record) (c : ListenSet) (s : State) :
    LimitKept s (changeListen i r c s) := by
  unfold changeListen
  split
  · exact .refl s
  · dsimp only
    refine LimitKept.trans ?_ (modRec_limitKept ..)
    split <;> split
    · exact .refl s
    · exact setCarriage_limitKept ..
    · exact setCarriage_limitKept ..
    · exact (setCarriage_limitKept ..).trans (setCarriage_limitKept ..)

theorem evictFor_limitKept (a : AntennaId) (s : State) : LimitKept s (evictFor a s).state := by
  unfold evictFor
  split
  · exact .refl s
  · exact .refl s
  · split
    · exact .refl s
    · exact (abortHeld_limitKept ..).trans (freeRecord_limitKept ..)

theorem attachNew_limitKept (h : HeadsetId) (a : AntennaId) (c : Option Profile) (p : Profile) (set : ListenSet)
    (v : Byte) (s : State) : LimitKept s (attachNew h a c p set v s).state := by
  unfold attachNew
  split
  · exact .refl s
  · split
    · exact .refl s
    · dsimp only
      split
      · next i q _ hp =>
        refine (evictFor_limitKept a s).trans (LimitKept.trans ?_ (depthReleaseFor_limitKept ..))
        have seated := fun r => (setRec_limitKept (evictFor a s).state i r).trans
          (takeSeat_limitKept (s := (evictFor a s).state.setRec i r)
            (x := { headset := i, kind := .serving, burst := p.listenBurst }) hp set)
        split
        · exact (seated ..).trans (roomMade_limitKept ..)
        · exact seated ..
      · exact .refl s

theorem attachAdrift_limitKept (i : RosterIx) (r : Record) (a : AntennaId) (c : Option Profile) (p : Profile)
    (set : ListenSet) (v : Byte) (s : State) : LimitKept s (attachAdrift i r a c p set v s).state := by
  unfold attachAdrift
  dsimp only
  split
  · exact (abortHeld_limitKept ..).trans (depthReleaseFor_limitKept ..)
  · next hp =>
    exact (abortHeld_limitKept ..).trans ((takeSeat_limitKept hp _).trans ((modRec_limitKept ..).trans
      ((applyPending_limitKept ..).trans (depthReleaseFor_limitKept ..))))

theorem attachSeated_limitKept (i : RosterIx) (r : Record) (a : AntennaId) (s : State) :
    LimitKept s (attachSeated i r a s).state := by
  unfold attachSeated
  split <;> exact .refl s

theorem doAttach_limitKept (l : LinkId) (h : HeadsetId) (a c : Byte) (set : ListenSet) (v : Byte) (s : State) :
    LimitKept s (doAttach l h a c set v s).state := by
  unfold doAttach
  split
  · split
    · exact .refl s
    · split
      · split
        · exact .refl s
        · exact attachNew_limitKept ..
      · split
        · exact attachSeated_limitKept ..
        · split
          · exact .refl s
          · exact attachAdrift_limitKept ..
  · exact .refl s

/-! ### The Antenna Table -/

/-- A DOWN antenna has no airtime to keep (R40, R44). -/
theorem clearAntenna_limitKept (a : AntennaId) (s : State) : LimitKept s (clearAntenna a s) := by
  refine ⟨rfl, fun b hb => ?_⟩
  rw [clearAntenna, State.ant_setAnt]
  split
  · exact ⟨fun hup => absurd rfl hup, fun hup => absurd rfl hup⟩
  · exact hb

theorem abortInbound_limitKept (m : SeatEnd) (a : AntennaId) (s : State) : LimitKept s (abortInbound m a s) :=
  .foldl _ (fun s e => abortReturn_limitKept m e s) ..

theorem loseMoving_limitKept (a : AntennaId) (i : RosterIx) (s : State) : LimitKept s (loseMoving a i s) := by
  unfold loseMoving
  split
  · exact .refl s
  · split
    · exact .refl s
    · split
      · exact (enterAdrift_limitKept ..).trans (modEntry_limitKept ..)
      · exact .refl s

theorem loseServed_limitKept (a : AntennaId) (i : RosterIx) (s : State) : LimitKept s (loseServed a i s) := by
  unfold loseServed
  split
  · exact .refl s
  · split
    · exact (abortHeld_limitKept ..).trans (enterAdrift_limitKept ..)
    · exact .refl s

theorem goDown_limitKept (a : AntennaId) (s : State) : LimitKept s (goDown a s) :=
  (abortInbound_limitKept ..).trans ((LimitKept.foldl _ (fun s i => loseMoving_limitKept a i s) ..).trans
    ((LimitKept.foldl _ (fun s i => loseServed_limitKept a i s) ..).trans (clearAntenna_limitKept ..)))

theorem drainOffer_limitKept (a : AntennaId) (i : RosterIx) (s : State) : LimitKept s (drainOffer a i s) := by
  unfold drainOffer
  split
  · exact .refl s
  · split
    · exact evaluate_limitKept ..
    · exact .refl s

/-- An antenna that is up, put in another state. -/
theorem setAntennaState_limitKept {a : AntennaId} {s : State} (h : (s.ant a).state ≠ .down) (x : AntennaState) :
    LimitKept s (setAntennaState a x s) :=
  modAnt_limitKept rfl rfl fun hd => absurd hd h

theorem startDrain_limitKept {a : AntennaId} {s : State} (h : (s.ant a).state ≠ .down) : LimitKept s (startDrain a s) :=
  (setAntennaState_limitKept h _).trans ((abortInbound_limitKept ..).trans
    ((LimitKept.foldl _ (fun s i => drainOffer_limitKept a i s) ..).trans
      ((closureCheck_limitKept ..).trans (depthReleaseAll_limitKept ..))))

/-! ### Talk keys and the handoff exchange -/

theorem lowerReserved_limitKept (r : Record) (s : State) : LimitKept s (lowerReserved r s) := by
  unfold lowerReserved
  split
  · exact .refl s
  · split
    · exact .refl s
    · split
      · exact lowerSeat_limitKept ..
      · exact .refl s

theorem lowerServing_limitKept (r : Record) (s : State) : LimitKept s (lowerServing r s) := by
  unfold lowerServing
  split
  · exact .refl s
  · exact lowerSeat_limitKept ..

theorem releaseKey_limitKept (i : RosterIx) (r : Record) (s : State) : LimitKept s (releaseKey i r s) := by
  unfold releaseKey
  split
  · exact .refl s
  · exact (lowerServing_limitKept ..).trans ((lowerReserved_limitKept ..).trans (setKey_limitKept ..))
  · exact (leaveOwnQueue_limitKept ..).trans (setKey_limitKept ..)
  · exact setKey_limitKept ..

theorem keyOn_limitKept (i : RosterIx) (r : Record) (s : State) : LimitKept s (keyOn i r s).state := by
  unfold keyOn
  split
  · exact .refl s
  · split
    · exact keyPress_limitKept ..
    · exact setKey_limitKept ..

theorem moveEntry_limitKept (x : Entry) (s : State) : LimitKept s (moveEntry x s) :=
  (modEntry_limitKept ..).trans (modRec_limitKept ..)

/-! ### The expiries -/

theorem takeExpiry_limitKept (x : Expiry) (s : State) : LimitKept s (takeExpiry x s) := by
  cases x with
  | serveLost i =>
    rw [takeExpiry, takeServeLost]
    split
    · exact .refl s
    · split
      · exact serveLostExpiry_limitKept ..
      · exact setRec_limitKept ..
  | retain i =>
    rw [takeExpiry, takeRetain]
    split
    · exact .refl s
    · split
      · exact retainExpiry_limitKept ..
      · exact setRec_limitKept ..
  | candidateAge i a =>
    rw [takeExpiry, takeCandidateAge]
    split
    · exact .refl s
    · split
      · exact removeCandidate_limitKept ..
      · exact setRec_limitKept ..
  | prepare e =>
    rw [takeExpiry, takePrepare]
    split
    · exact .refl s
    · split
      · exact abortAndRelease_limitKept ..
      · exact modEntry_limitKept ..
  | move e =>
    rw [takeExpiry, takeMove]
    split
    · exact .refl s
    · split
      · exact abortAndRelease_limitKept ..
      · exact modEntry_limitKept ..

end Sys2Proof.Machine
end

section
/-! The parameter ranges (R173) with the airtime law and the limit (R44) under every request, every link and timebase
operation, and so under every step. -/

namespace Sys2Proof.Machine

/-! ### Parameters written (R173, R175) -/

theorem Params.read_write (p : Params) (q q' : Param) (v : Nat) :
    (p.write q v).read q' = if q = q' then v else p.read q' := by
  cases q <;> cases q' <;> rfl

/-- A value clamped lies in its parameter's range (R175, step 3). -/
theorem Param.clamp_range (q : Param) (v : Nat) : q.low ≤ q.clamp v ∧ q.clamp v ≤ q.high := by
  have : q.low ≤ q.high := by cases q <;> decide
  unfold Param.clamp
  omega

/-- A parameter that is not BEACON, GUARD or RESERVE bears on no airtime and no limit (R43, R44). -/
theorem airtime_write {q : Param} (h : q.isAirtime = false) (p : Params) (v : Nat) :
    (∀ plan, airtimeOf (p.write q v) plan = airtimeOf p plan) ∧ limitOf (p.write q v) = limitOf p := by
  cases q
  case beacon => cases h
  case guardTime => cases h
  case reserve => cases h
  all_goals exact ⟨fun _ => rfl, rfl⟩

/-- Every parameter lies in its range, and the airtime law and the limit hold at every antenna that is up (R44,
R173). -/
def WithinLimit (s : State) : Prop := ParamsInRange s ∧ AirtimeHolds s

theorem LimitKept.withinLimit {s t : State} (h : LimitKept s t) (hs : WithinLimit s) : WithinLimit t :=
  ⟨h.paramsInRange hs.1, h.airtimeHolds hs.2⟩

theorem paramsInRange_write {s t : State} {q : Param} {v : Nat} (hs : ParamsInRange s) (hl : q.low ≤ v)
    (hh : v ≤ q.high) (ht : t.params = s.params.write q v) : ParamsInRange t := by
  intro q'
  rw [ht, Params.read_write]
  split
  · next h => exact h ▸ ⟨hl, hh⟩
  · exact hs q'

/-- A parameter stored that bears on no airtime keeps what held. -/
theorem withinLimit_write {s : State} {q : Param} {v : Nat} (hs : WithinLimit s) (hq : q.isAirtime = false)
    (hl : q.low ≤ v) (hh : v ≤ q.high) : WithinLimit { s with params := s.params.write q v } := by
  obtain ⟨hair, hlim⟩ := airtime_write hq s.params v
  refine ⟨paramsInRange_write hs.1 hl hh rfl, airtimeHolds_iff.2 fun a => ?_⟩
  unfold Antenna.Exact Antenna.Fits
  simp only [hair, hlim]
  exact airtimeHolds_iff.1 hs.2 a

/-! ### BEACON, GUARD and RESERVE (R63, R176) -/

theorem airtimeFits_iff {s : State} {p : Params} : airtimeFits s p = true ↔ ∀ a, (s.ant a).Fits p := by
  simp only [airtimeFits, List.all_eq_true, antennaOrder, mem_ascending, true_implies, Bool.or_eq_true, beq_iff_eq,
    decide_eq_true_eq, Antenna.Fits, ne_eq, or_iff_not_imp_left]

theorem airtimeChanged_plansKept (k : Nat) (s : State) (a : AntennaId) : PlansKept s (airtimeChanged k s a) := by
  unfold airtimeChanged
  dsimp only
  split
  · exact .refl s
  · split
    · exact (setPlan_plansKept id).trans (roomMade_plansKept ..)
    · exact setPlan_plansKept id

/-- The antenna taken has its airtime recomputed (R63). -/
theorem airtimeChanged_exact (k : Nat) (s : State) (a : AntennaId) :
    ((airtimeChanged k s a).ant a).Exact s.params := by
  unfold airtimeChanged
  dsimp only
  split
  · next h => exact fun hup => absurd h hup
  · split
    · exact ((roomMade_plansKept a _).2 a).1 (setPlan_exact s a _)
    · exact setPlan_exact s a _

/-- The walk over the antennas leaves the law at each that it takes, and the limit where all keep it before. -/
theorem foldl_airtimeChanged {k : Nat} : ∀ {l : List AntennaId} {s : State}, (∀ a, (s.ant a).Fits s.params) →
    (∀ a, a ∉ l → (s.ant a).Exact s.params) → AirtimeHolds (l.foldl (airtimeChanged k) s)
  | [], s, hf, he => airtimeHolds_iff.2 fun a => ⟨he a List.not_mem_nil, hf a⟩
  | b :: rest, s, hf, he => by
    obtain ⟨hp, hkept⟩ := airtimeChanged_plansKept k s b
    refine foldl_airtimeChanged (s := airtimeChanged k s b) (fun a => ?_) (fun a ha => ?_)
    · rw [hp]
      exact (hkept a).2 (hf a)
    · rw [hp]
      by_cases hab : a = b
      · exact hab ▸ airtimeChanged_exact k s b
      · exact (hkept a).1 (he a (by simp [hab, ha]))

theorem storeAirtime_params (p : Params) (s : State) : (storeAirtime p s).params = p :=
  (SameRest.foldl _ (airtimeChanged_rest _) _ _).params

theorem storeAirtime_airtimeHolds {p : Params} {s : State} (h : airtimeFits s p = true) :
    AirtimeHolds (storeAirtime p s) := by
  unfold storeAirtime
  exact foldl_airtimeChanged (s := { s with params := p }) (airtimeFits_iff.1 h) fun a ha =>
    absurd (mem_ascending a) ha

/-! ### SET (R175) -/

theorem storeParam_withinLimit {q : Param} {v : Nat} {s t : State} (hs : WithinLimit s) (hl : q.low ≤ v)
    (hh : v ≤ q.high) (h : storeParam q v s = .ok t) : WithinLimit t := by
  unfold storeParam at h
  dsimp only at h
  split at h
  · cases h
    exact hs
  · split at h
    · split at h
      · next hfits =>
        rw [← Except.ok.inj h]
        exact ⟨paramsInRange_write hs.1 hl hh (storeAirtime_params ..), storeAirtime_airtimeHolds hfits⟩
      · cases h
    · next hq =>
      have stored := withinLimit_write hs (Bool.eq_false_of_not_eq_true hq) hl hh
      split at h
      · split at h
        · cases h
        · split at h
          · rw [← Except.ok.inj h]
            exact (depthReleaseAll_limitKept _).withinLimit stored
          · rw [← Except.ok.inj h]
            exact stored
      · rw [← Except.ok.inj h]
        exact stored

theorem doSet_withinLimit {l : LinkId} {number : Byte} {value : BitVec 16} {s : State} (hs : WithinLimit s) :
    WithinLimit (doSet l number value s).state := by
  unfold doSet setParam
  split
  · exact hs
  · next q _ =>
    split
    · exact hs
    · split
      · exact hs
      · next h => exact storeParam_withinLimit hs (q.clamp_range _).1 (q.clamp_range _).2 h

/-! ### The requests -/

/-- An antenna that comes up has BEACON alone as its airtime, which the range of RESERVE leaves room for (R25, R44). -/
theorem bringUp_withinLimit {l : LinkId} {a : AntennaId} {s : State} (hs : WithinLimit s) :
    WithinLimit (bringUp l a s) := by
  obtain ⟨hrange, hair⟩ := hs
  refine ⟨hrange, airtimeHolds_iff.2 fun b => ?_⟩
  have empty : airtimeOf s.params (Vector.replicate 16 Group.empty) = s.params.beacon := by
    simp [airtimeOf, planCost, Group.cost, Group.empty, Group.isEmpty]
  unfold bringUp
  rw [clearBlocked_ant, clearBlocked_params, State.setAnt_params, State.ant_setAnt]
  split
  · refine ⟨fun _ => empty.symm, fun _ => ?_⟩
    have hb : s.params.beacon ≤ 1000 := (hrange .beacon).2
    have hr : s.params.reserve ≤ 2000 := (hrange .reserve).2
    rw [Antenna.up, empty]
    unfold limitOf Config.frameMicros
    omega
  · exact airtimeHolds_iff.1 hair b

theorem withHeadset_limitKept {h : HeadsetId} {m : Status} {s : State} {act : RosterIx → Record → Answer}
    (ha : ∀ i r, LimitKept s (act i r).state) : LimitKept s (withHeadset h m s act).state := by
  unfold withHeadset
  split
  · split
    · exact .refl s
    · split
      · exact .refl s
      · exact ha ..
  · exact .refl s

/-- A request that names an antenna keeps what its two actions keep, the second at an antenna that is up. -/
theorem antennaRequest_withinLimit {l : LinkId} {a : Byte} {s : State} {f g : AntennaId → Answer} (hs : WithinLimit s)
    (hf : ∀ a, WithinLimit (f a).state) (hg : ∀ a, (s.ant a).state ≠ .down → WithinLimit (g a).state) :
    WithinLimit (antennaRequest l a s f g).state := by
  unfold antennaRequest
  split
  · exact hs
  · split
    · exact hf _
    · next hup =>
      split
      · exact hs
      · exact hg _ hup

theorem answerPrepare_limitKept {l : LinkId} {h : HeadsetId} {s : State} {act : Entry → State}
    (ha : ∀ x, LimitKept s (act x)) : LimitKept s (answerPrepare l h s act).state := by
  refine withHeadset_limitKept fun i r => ?_
  split
  · exact .refl s
  · split
    · exact ha _
    · exact .refl s

theorem doKey_limitKept (l : LinkId) (h : HeadsetId) (k : Byte) (s : State) : LimitKept s (doKey l h k s).state := by
  unfold doKey
  split
  · exact .refl s
  · refine withHeadset_limitKept fun i r => ?_
    split
    · exact .refl s
    · split
      · exact keyOn_limitKept ..
      · exact releaseKey_limitKept ..

theorem doArrived_limitKept (l : LinkId) (h : HeadsetId) (a : Byte) (s : State) :
    LimitKept s (doArrived l h a s).state := by
  unfold doArrived
  split
  · exact .refl s
  · refine withHeadset_limitKept fun i r => ?_
    unfold arrivedAt
    split
    · split
      · exact completeEntry_limitKept ..
      · exact .refl s
    · split
      · split <;> exact .refl s
      · exact .refl s

theorem doStay_limitKept (l : LinkId) (h : HeadsetId) (s : State) : LimitKept s (doStay l h s).state := by
  refine withHeadset_limitKept fun i r => ?_
  split
  · exact .refl s
  · split
    · split
      · exact abortAndRelease_limitKept ..
      · exact .refl s
    · exact .refl s

theorem doLevels_limitKept (l : LinkId) (a : Byte) (pairs : List (HeadsetId × Byte)) (s : State) :
    LimitKept s (doLevels l a pairs s).state := by
  unfold doLevels
  split
  · exact .refl s
  · split
    · exact .refl s
    · exact applyPairs_limitKept ..

theorem doTrim_limitKept (l : LinkId) (v : BitVec 16) (s : State) : LimitKept s (doTrim l v s).state := by
  unfold doTrim
  split
  · exact .refl s
  · exact limitKept_of_antennas rfl rfl

theorem doQueryAntenna_limitKept (a : Byte) (s : State) : LimitKept s (doQueryAntenna a s).state := by
  unfold doQueryAntenna
  split <;> exact .refl s

theorem doGet_limitKept (number : Byte) (s : State) : LimitKept s (doGet number s).state := by
  unfold doGet
  split <;> exact .refl s

theorem perform_withinLimit {l : LinkId} {q : Request} {s : State} (hs : WithinLimit s) :
    WithinLimit (perform l q s).state := by
  have kept : ∀ {t}, LimitKept s t → WithinLimit t := fun h => h.withinLimit hs
  unfold perform
  cases q.ask with
  | antUp b => exact antennaRequest_withinLimit hs (fun _ => bringUp_withinLimit hs) fun _ _ => hs
  | antDown b =>
    refine antennaRequest_withinLimit hs (fun _ => hs) fun a _ => ?_
    rw [antennaOk_state]
    exact kept ((goDown_limitKept a s).trans (depthReleaseAll_limitKept _))
  | antDrain b =>
    refine antennaRequest_withinLimit hs (fun _ => hs) fun a hup => ?_
    rw [antennaOk_state]
    split
    · exact kept (startDrain_limitKept hup)
    · exact hs
  | antReopen b =>
    refine antennaRequest_withinLimit hs (fun _ => hs) fun a hup => ?_
    rw [antennaOk_state]
    split
    · exact hs
    · exact kept (setAntennaState_limitKept hup _)
  | cardRestart =>
    exact kept ((LimitKept.foldl _ (fun s a => goDown_limitKept a s) ..).trans (depthReleaseAll_limitKept _))
  | attach h b c set v => exact kept (doAttach_limitKept ..)
  | detach h => exact kept (withHeadset_limitKept fun i r => detachRecord_limitKept ..)
  | levels b pairs => exact kept (doLevels_limitKept ..)
  | listen h set => exact kept (withHeadset_limitKept fun i r => changeListen_limitKept ..)
  | key h k => exact kept (doKey_limitKept ..)
  | ready h => exact kept (answerPrepare_limitKept fun x => moveEntry_limitKept ..)
  | decline h => exact kept (answerPrepare_limitKept fun x => abortAndRelease_limitKept ..)
  | arrived h b => exact kept (doArrived_limitKept ..)
  | stay h => exact kept (doStay_limitKept ..)
  | queryHeadset h => exact kept (withHeadset_limitKept fun i r => .refl s)
  | queryAntenna b => exact kept (doQueryAntenna_limitKept ..)
  | queryClock => exact hs
  | set p v => exact doSet_withinLimit hs
  | get p => exact kept (doGet_limitKept ..)
  | trim v => exact kept (doTrim_limitKept ..)
  | clearFlags m => exact kept (modLink_limitKept ..)
  | badLength => exact hs
  | unknown => exact hs

/-! ### The card links -/

theorem execute_withinLimit {l : LinkId} {q : Request} {s : State} (hs : WithinLimit s) : WithinLimit (execute l q s) :=
  (modLink_limitKept ..).withinLimit (perform_withinLimit hs)

theorem executeOldest_withinLimit {l : LinkId} {s : State} (hs : WithinLimit s) : WithinLimit (executeOldest l s) := by
  unfold executeOldest
  split
  · exact execute_withinLimit ((modLink_limitKept ..).withinLimit hs)
  · exact hs

theorem submit_withinLimit {l : LinkId} {q : Request} {s : State} (hs : WithinLimit s) :
    WithinLimit (submit l q s) := by
  unfold submit
  split
  · exact executeOldest_withinLimit ((modLink_limitKept ..).withinLimit hs)
  · exact (modLink_limitKept ..).withinLimit hs

theorem beginReply_limitKept (l : LinkId) (body : List Byte) (s : State) : LimitKept s (beginReply l body s) :=
  modLink_limitKept ..

theorem beginPrepare_limitKept (l : LinkId) (x : Entry) (s : State) : LimitKept s (beginPrepare l x s) :=
  (modLink_limitKept ..).trans (modEntry_limitKept ..)

theorem beginMove_limitKept (l : LinkId) (x : Entry) (s : State) : LimitKept s (beginMove l x s) :=
  (modLink_limitKept ..).trans (modEntry_limitKept ..)

theorem beginPlan_limitKept (l : LinkId) (a : AntennaId) (s : State) : LimitKept s (beginPlan l a s) :=
  (modLink_limitKept ..).trans (modAnt_limitKept rfl rfl id)

theorem transmit_limitKept (l : LinkId) (s : State) : LimitKept s (transmit l s) := by
  unfold transmit
  split
  · exact .refl s
  · exact beginReply_limitKept ..
  · exact beginPrepare_limitKept ..
  · exact beginMove_limitKept ..
  · exact beginPlan_limitKept ..

theorem transmitAll_limitKept (s : State) : LimitKept s (transmitAll s) :=
  .foldl _ (fun s l => transmit_limitKept l s) ..

theorem settleLoop_limitKept (due : State → List Expiry) : ∀ (n : Nat) (s : State), LimitKept s (settleLoop due n s)
  | 0, s => transmitAll_limitKept s
  | n + 1, s => by
    unfold settleLoop
    dsimp only
    split
    · exact transmitAll_limitKept s
    · refine (transmitAll_limitKept s).trans
        (.trans ?_ ((takeExpiry_limitKept ..).trans (settleLoop_limitKept due n _)))
      exact limitKept_of_antennas rfl rfl

theorem settle_limitKept (s : State) : LimitKept s (settle s) := settleLoop_limitKept ..

theorem settleAll_limitKept (s : State) : LimitKept s (settleAll s) := settleLoop_limitKept ..

theorem takeCharacter_withinLimit {l : LinkId} {b : Byte} {s : State} (hs : WithinLimit s) :
    WithinLimit (takeCharacter l b s) := by
  have heard := (modLink_limitKept s l fun x => { x with awaitHigh := false }).withinLimit hs
  unfold takeCharacter
  dsimp only
  split
  · split
    · exact (modLink_limitKept ..).withinLimit heard
    · exact heard
  · exact (modLink_limitKept ..).withinLimit heard
  · exact (modLink_limitKept ..).withinLimit heard
  · unfold takeCheck
    split
    · exact submit_withinLimit ((modLink_limitKept ..).withinLimit heard)
    · exact (modLink_limitKept ..).withinLimit heard

theorem endMessage_withinLimit {l : LinkId} {m : Message} {s : State} (hs : WithinLimit s) :
    WithinLimit (endMessage l m s) := by
  unfold endMessage
  dsimp only
  split
  · exact executeOldest_withinLimit ((modLink_limitKept ..).withinLimit ((modLink_limitKept ..).withinLimit hs))
  · exact (modLink_limitKept ..).withinLimit hs

/-! ### The commands -/

theorem holdReset_withinLimit (s : State) : WithinLimit (holdReset s) := by
  obtain ⟨-, -, hrange, hair, -⟩ := resetMeetsTheInvariants
  exact ⟨hrange, hair⟩

/-- A command that runs only while reset is not held keeps what its effect keeps. -/
theorem whenRunning_withinLimit {s t : State} {f : State → State} (hs : WithinLimit s)
    (h : whenRunning s f = .next t) (hf : WithinLimit (f s)) : WithinLimit t := by
  unfold whenRunning at h
  cases h
  split
  · exact hs
  · exact hf

theorem exec_withinLimit {c : Instr} {s t : State} (hs : WithinLimit s) (h : exec c s = .next t) : WithinLimit t := by
  cases hq : requestOf c with
  | some p =>
    rw [exec_of_requestOf hq] at h
    exact whenRunning_withinLimit hs h (submit_withinLimit ((settle_limitKept s).withinLimit hs))
  | none =>
    have running : ∀ {f : State → State}, LimitKept s (f s) → whenRunning s f = .next t → WithinLimit t :=
      fun hf h => whenRunning_withinLimit hs h (hf.withinLimit hs)
    have heard : ∀ {l b}, whenRunning s (fun s => takeCharacter l b (settle s)) = .next t → WithinLimit t :=
      fun h => whenRunning_withinLimit hs h (takeCharacter_withinLimit ((settle_limitKept s).withinLimit hs))
    have expiry : ∀ x, whenRunning s (fun s => takeExpiry x (transmitAll s)) = .next t → WithinLimit t :=
      fun x => running ((transmitAll_limitKept s).trans (takeExpiry_limitKept x _))
    cases c
    case requestReceived => exact heard h
    case malformed => exact heard h
    case goodCharacter => exact heard h
    case badCharacter =>
      rw [exec, execBadCharacter] at h
      exact running (modLink_limitKept ..) h
    case idleTimerExpiry =>
      rw [exec, execIdleTimerExpiry] at h
      exact running (modLink_limitKept ..) h
    case lineBreak =>
      rw [exec, execLineBreak] at h
      exact running (f := fun s => (settle s).modLink _ Link.restart)
        ((settle_limitKept s).trans (modLink_limitKept ..)) h
    case replyTransmission =>
      rw [exec, execReplyTransmission] at h
      refine running ?_ h
      split
      · exact beginReply_limitKept ..
      · exact .refl s
    case prepareNotice =>
      rw [exec, execPrepareNotice] at h
      refine running ?_ h
      split
      · exact beginPrepare_limitKept ..
      · exact .refl s
    case moveNotice =>
      rw [exec, execMoveNotice] at h
      refine running ?_ h
      split
      · exact beginMove_limitKept ..
      · exact .refl s
    case framePlanNotice =>
      rw [exec, execFramePlanNotice] at h
      refine running ?_ h
      split
      · exact beginPlan_limitKept ..
      · exact .refl s
    case messageSent l =>
      rw [exec, execMessageSent] at h
      refine whenRunning_withinLimit hs h ?_
      have settled := (settle_limitKept s).withinLimit hs
      dsimp only
      split
      · exact settled
      · exact (transmit_limitKept ..).withinLimit (endMessage_withinLimit settled)
    case frameBoundary =>
      rw [exec, execFrameBoundary] at h
      exact running (f := fun s => countTimers (advanceClock (settleAll s)))
        ((settleAll_limitKept s).trans (limitKept_of_antennas rfl rfl)) h
    case serveLostExpiry i => exact expiry (.serveLost i) h
    case retainExpiry i => exact expiry (.retain i) h
    case candidateAgeExpiry i a => exact expiry (.candidateAge i a) h
    case prepareTimerExpiry e => exact expiry (.prepare e) h
    case moveTimerExpiry e => exact expiry (.move e) h
    case reset =>
      cases h
      exact holdReset_withinLimit s
    case resetRelease =>
      cases h
      split
      · exact (limitKept_of_antennas rfl rfl).withinLimit hs
      · exact hs
    case fsyncPulseEnd =>
      rw [exec, execFsyncPulseEnd] at h
      exact running (limitKept_of_antennas rfl rfl) h
    case setAirtimeParameter l tag p v => cases p <;> simp [requestOf] at hq
    all_goals simp [requestOf] at hq

/-- Settles O57: the front command is executed on the rest of the queue, and every command keeps the ranges, the law and
the limit. -/
theorem airtimeStaysWithinTheLimit : Obligations.AirtimeStaysWithinTheLimit := by
  intro s t hrange hair h
  have hs : WithinLimit s := ⟨hrange, hair⟩
  unfold step at h
  split at h
  · cases h
    exact hs
  · next c rest _ =>
    exact exec_withinLimit (s := { s with pending := rest }) hs h

end Sys2Proof.Machine
end

section
/-! SET of BEACON, GUARD or RESERVE (R63, R175, R176): its checks, the walk over the antennas, and the state that it
leaves where no key waits. -/

namespace Sys2Proof.Machine

/-! ### The walk over the antennas (R63) -/

/-- The room of an antenna grows as its airtime is recomputed under other parameters (R55, R63). -/
abbrev Antenna.Grows (oldLimit : Nat) (p : Params) (x : Antenna) : Prop :=
  (oldLimit : Int) - x.airtime < (limitOf p : Int) - airtimeOf p x.plan

/-- The antenna with its airtime recomputed and its plan due, if it is up (R63). -/
def Antenna.retimed (p : Params) (x : Antenna) : Antenna :=
  if x.state = .down then x else { x with airtime := airtimeOf p x.plan, planDue := true }

theorem Antenna.retimed_queue (p : Params) (x : Antenna) : (x.retimed p).queue = x.queue := by
  unfold Antenna.retimed
  split <;> rfl

/-- One antenna of the walk, its parameters already stored (R63). -/
theorem airtimeChanged_eq (k : Nat) (s : State) (a : AntennaId) :
    airtimeChanged k s a =
      if (s.ant a).state = .down then s
      else if (s.ant a).Grows k s.params then roomMade a (s.modAnt a (Antenna.retimed s.params))
      else s.modAnt a (Antenna.retimed s.params) := by
  unfold airtimeChanged
  split
  · rfl
  · next hup =>
    have hset : s.setPlan a (s.ant a).plan = s.modAnt a (Antenna.retimed s.params) := by
      unfold State.setPlan State.modAnt Antenna.retimed
      rw [if_neg hup]
    have hair : ((s.modAnt a (Antenna.retimed s.params)).ant a).airtime = airtimeOf s.params (s.ant a).plan := by
      rw [State.ant_modAnt_self, Antenna.retimed, if_neg hup]
    dsimp only
    rw [hset, hair]
    rfl

/-- Walks whose steps agree wherever the parameters are p agree, when the steps leave the parameters. -/
theorem foldl_congr_params {f g : State → AntennaId → State} {p : Params}
    (hf : ∀ s a, (f s a).params = s.params) (h : ∀ s a, s.params = p → f s a = g s a) :
    ∀ (l : List AntennaId) (s : State), s.params = p → l.foldl f s = l.foldl g s
  | [], _, _ => rfl
  | a :: rest, s, hp => by
    rw [List.foldl_cons, List.foldl_cons, ← h s a hp]
    exact foldl_congr_params hf h rest _ ((hf s a).trans hp)

/-! ### The walk where no key waits -/

/-- The record after the rooms of some antennas have grown: the blocked flags that name them are cleared (R56). -/
def Record.unblockAmong (grown : AntennaId → Bool) (r : Record) : Record :=
  { r with candidates := r.candidates.map fun c => if grown c.antenna then { c with blocked := false } else c }

theorem unblockAmong_none : Record.unblockAmong (fun _ => false) = id := by
  funext r
  simp [Record.unblockAmong]

theorem unblockAmong_one (a : AntennaId) : Record.unblockAmong (fun b => b == a) = Record.unblock a := by
  funext r
  simp [Record.unblockAmong, Record.unblock]

theorem unblockAmong_unblockAmong (p q : AntennaId → Bool) (r : Record) :
    (r.unblockAmong p).unblockAmong q = r.unblockAmong fun b => p b || q b := by
  unfold Record.unblockAmong
  rw [List.map_map]
  congr 2
  funext c
  cases hp : p c.antenna <;> cases hq : q c.antenna <;> simp [hp, hq]

/-- The antenna is up and its room grows (R63). -/
def Antenna.makesRoom (k : Nat) (p : Params) (x : Antenna) : Bool := decide (x.state ≠ .down ∧ x.Grows k p)

/-- The state after the walk has taken some antennas at which no key waits. -/
def State.retimed (k : Nat) (l : List AntennaId) (s : State) : State :=
  { s with
    antennas := Vector.ofFn fun b => if b ∈ l then (s.ant b).retimed s.params else s.ant b
    roster := s.roster.map (Option.map (Record.unblockAmong fun b =>
      decide (b ∈ l) && (s.ant b).makesRoom k s.params)) }

theorem State.retimed_ant (k : Nat) (l : List AntennaId) (s : State) (b : AntennaId) :
    (s.retimed k l).ant b = if b ∈ l then (s.ant b).retimed s.params else s.ant b := by
  simp [State.retimed, State.ant, Vector.get_eq_getElem]

theorem State.retimed_nil (k : Nat) (s : State) : s.retimed k [] = s := by
  have hant : (Vector.ofFn fun b => if b ∈ ([] : List AntennaId) then (s.ant b).retimed s.params else s.ant b) =
      s.antennas := by
    ext1 j hj
    simp [State.ant, Vector.get_eq_getElem]
  unfold State.retimed
  rw [hant]
  simp only [List.not_mem_nil, decide_false, Bool.false_and, unblockAmong_none, Option.map_id, Vector.map_id]

theorem State.retimed_one (k : Nat) (s : State) (a : AntennaId) :
    s.retimed k [a] = { s.modAnt a (Antenna.retimed s.params) with
      roster := s.roster.map (Option.map
        (if (s.ant a).makesRoom k s.params then Record.unblock a else id)) } := by
  have hant : (Vector.ofFn fun b => if b ∈ [a] then (s.ant b).retimed s.params else s.ant b) =
      (s.modAnt a (Antenna.retimed s.params)).antennas := by
    ext1 j hj
    have := State.ant_modAnt s a ⟨j, hj⟩ (Antenna.retimed s.params)
    simp only [State.ant, Vector.get_eq_getElem] at this
    simp [State.ant, Vector.get_eq_getElem, this, eq_comm]
  have hgrown : Record.unblockAmong (fun b => decide (b ∈ [a]) && (s.ant b).makesRoom k s.params) =
      if (s.ant a).makesRoom k s.params then Record.unblock a else id := by
    cases hg : (s.ant a).makesRoom k s.params with
    | true =>
      rw [if_pos rfl, ← unblockAmong_one]
      congr 1
      funext b
      by_cases hb : b = a <;> simp [hb, hg]
    | false =>
      rw [if_neg Bool.false_ne_true, ← unblockAmong_none]
      congr 1
      funext b
      by_cases hb : b = a <;> simp [hb, hg]
  unfold State.retimed
  rw [hant, hgrown]
  rfl

/-- One antenna of the walk where no key waits. -/
theorem airtimeChanged_of_empty {k : Nat} {s : State} {a : AntennaId} (h : (s.ant a).queue = []) :
    airtimeChanged k s a = s.retimed k [a] := by
  rw [airtimeChanged_eq, State.retimed_one]
  by_cases hup : (s.ant a).state = .down
  · have hsame : s.modAnt a (Antenna.retimed s.params) = s := by
      rw [State.modAnt, Antenna.retimed, if_pos hup, State.setAnt_ant]
    have hno : (s.ant a).makesRoom k s.params = false := by simp [Antenna.makesRoom, hup]
    rw [if_pos hup, hsame, hno, if_neg Bool.false_ne_true, Option.map_id, Vector.map_id]
  · by_cases hg : (s.ant a).Grows k s.params
    · have hyes : (s.ant a).makesRoom k s.params = true := decide_eq_true ⟨hup, hg⟩
      rw [if_neg hup, if_pos hg, hyes, if_pos rfl,
        roomMade_of_empty (by rw [State.ant_modAnt_self, Antenna.retimed_queue, h])]
      rfl
    · have hno : (s.ant a).makesRoom k s.params = false := decide_eq_false fun h => hg h.2
      rw [if_neg hup, if_neg hg, hno, if_neg Bool.false_ne_true, Option.map_id, Vector.map_id]
      rfl

/-- One antenna taken before others is one more taken with them. -/
theorem retimed_retimed {k : Nat} {s : State} {a : AntennaId} {l : List AntennaId} (ha : a ∉ l) :
    (s.retimed k [a]).retimed k l = s.retimed k (a :: l) := by
  have before : ∀ b, b ∈ l → (s.retimed k [a]).ant b = s.ant b := fun b hb => by
    have hne : b ∉ [a] := fun h => ha (List.mem_singleton.1 h ▸ hb)
    rw [State.retimed_ant, if_neg hne]
  have hroster : ((s.roster.map (Option.map (Record.unblockAmong fun b =>
      decide (b ∈ [a]) && (s.ant b).makesRoom k s.params))).map (Option.map (Record.unblockAmong fun b =>
        decide (b ∈ l) && ((s.retimed k [a]).ant b).makesRoom k s.params))) =
      s.roster.map (Option.map (Record.unblockAmong fun b =>
        decide (b ∈ a :: l) && (s.ant b).makesRoom k s.params)) := by
    rw [Vector.map_map, Option.map_comp_map]
    congr 2
    funext r
    rw [Function.comp, unblockAmong_unblockAmong]
    congr 1
    funext b
    by_cases hb : b ∈ l
    · simp [hb, before b hb]
    · simp [hb]
  have hant : (fun b => if b ∈ l then ((s.retimed k [a]).ant b).retimed s.params else (s.retimed k [a]).ant b) =
      fun b => if b ∈ a :: l then (s.ant b).retimed s.params else s.ant b := by
    funext b
    by_cases hb : b ∈ l
    · simp [hb, before b hb]
    · simp [hb, State.retimed_ant]
  conv_lhs => unfold State.retimed
  conv_rhs => unfold State.retimed
  rw [← hant, ← hroster]
  rfl

/-- The walk where no key waits (R63). -/
theorem foldl_airtimeChanged_of_empty (k : Nat) : ∀ {l : List AntennaId}, l.Nodup → ∀ {s : State},
    (∀ a, (s.ant a).queue = []) → l.foldl (airtimeChanged k) s = s.retimed k l
  | [], _, s, _ => (s.retimed_nil k).symm
  | a :: rest, hl, s, hq => by
    obtain ⟨ha, hrest⟩ := List.nodup_cons.1 hl
    have hnext : ∀ b, ((s.retimed k [a]).ant b).queue = [] := fun b => by
      rw [State.retimed_ant]
      split
      · rw [Antenna.retimed_queue, hq b]
      · exact hq b
    rw [List.foldl_cons, airtimeChanged_of_empty (hq a), foldl_airtimeChanged_of_empty k hrest hnext,
      retimed_retimed ha]

/-- The walk over every antenna where no key waits, written out (R63). -/
theorem State.retimed_all (k : Nat) (s : State) :
    s.retimed k (List.finRange 64) = { s with
      antennas := s.antennas.map (Antenna.retimed s.params)
      roster := s.roster.map fun r => r.map fun r =>
        { r with candidates := r.candidates.map fun c =>
            if (s.ant c.antenna).state ≠ .down ∧ (s.ant c.antenna).Grows k s.params
            then { c with blocked := false } else c } } := by
  have hant : (Vector.ofFn fun b => if b ∈ List.finRange 64 then (s.ant b).retimed s.params else s.ant b) =
      s.antennas.map (Antenna.retimed s.params) := by
    ext1 j hj
    simp [State.ant, Vector.get_eq_getElem]
  unfold State.retimed Record.unblockAmong
  rw [hant]
  simp only [List.mem_finRange, decide_true, Bool.true_and, Antenna.makesRoom, decide_eq_true_eq]

/-! ### The request (R171, R175, R176) -/

section
variable {l : LinkId} {s : State} {q : Param}

theorem setParam_of_foreign (h : l ≠ s.settingsLink) (number : Byte) (value : Nat) :
    setParam l number q value s =
      { state := s, status := .notPermitted, fields := valueFields number (s.params.read q) } := if_pos h

theorem setParam_of_error {value : Nat} {e : Status} (hl : l = s.settingsLink)
    (h : storeParam q (q.clamp value) s = .error e) (number : Byte) :
    setParam l number q value s = { state := s, status := e, fields := valueFields number (s.params.read q) } := by
  unfold setParam
  rw [if_neg (not_not.2 hl), h]

theorem setParam_of_ok {value : Nat} {t : State} (hl : l = s.settingsLink)
    (h : storeParam q (q.clamp value) s = .ok t) (number : Byte) :
    setParam l number q value s =
      { state := t, status := if q.clamp value = value then .ok else .okClamped,
        fields := valueFields number (q.clamp value) } := by
  unfold setParam
  rw [if_neg (not_not.2 hl), h]

/-- The value stored already is stored again (R175). -/
theorem storeParam_of_same {v : Nat} (h : s.params.read q = v) : storeParam q v s = .ok s := if_pos h

variable (ha : q.isAirtime = true)
include ha

/-- A value under which some up antenna does not fit is over the limit (R176). -/
theorem storeParam_of_over {v : Nat} (hv : s.params.read q ≠ v)
    (h : airtimeFits s (s.params.write q v) = false) : storeParam q v s = .error .overLimit := by
  simp [storeParam, hv, ha, h]

/-- A value under which every up antenna fits is stored (R63, R176). -/
theorem storeParam_of_fits {v : Nat} (hv : s.params.read q ≠ v)
    (h : airtimeFits s (s.params.write q v) = true) :
    storeParam q v s = .ok (storeAirtime (s.params.write q v) s) := by
  simp [storeParam, hv, ha, h]

end

/-- Settles O31: the checks in their order, then the walk over the antennas, whose parameters are stored before it. -/
theorem airtimeParametersAreChecked : Obligations.AirtimeParametersAreChecked := by
  intro s l tag p value q v hq hp hv number new status
  have row : ∀ {t : State} {st fields},
      setParam l number q value.toNat s = { state := t, status := st, fields := fields } →
      exec (.setAirtimeParameter l tag p value) s = .next (t.replied l 0x20 tag st fields) := fun h => by
    have hnum : Param.ofNumber? number = some q := by subst hp; cases p <;> rfl
    have hset : doSet l number value s = setParam l number q value.toNat s := by simp only [doSet, hnum]
    have hrow : exec (.setAirtimeParameter l tag p value) s = request l tag (.set number value) s := by
      cases p <;> rfl
    rw [hrow]
    exact request_of_perform hq tag (.set number value) 0x20 rfl (hset.trans h)
  have ha : q.isAirtime = true := by subst hp; cases p <;> rfl
  have fits : (∀ a, (s.ant a).state ≠ .down → airtimeOf new (s.ant a).plan ≤ 10000 - new.reserve) →
      airtimeFits s new = true := airtimeFits_iff.2
  have walk : storeAirtime new s = antennaOrder.foldl (airtimeChanged (10000 - s.params.reserve))
      { s with params := new } := rfl
  subst hv
  refine ⟨fun hl => ?foreign, fun hl hsame => ?same, fun hl hne ⟨a, hup, hover⟩ => ?excess,
    fun hl hne hfit => ?accepted, fun hl hne hfit hempty => ?idle⟩
  case foreign => exact row (setParam_of_foreign hl ..)
  case same => exact row (setParam_of_ok hl (storeParam_of_same hsame.symm) _)
  case excess =>
    have hno : airtimeFits s new = false := Bool.eq_false_of_not_eq_true fun h =>
      absurd (airtimeFits_iff.1 h a hup) (not_le.2 hover)
    exact row (setParam_of_error hl (storeParam_of_over ha (Ne.symm hne) hno) _)
  case accepted =>
    have stored := storeParam_of_fits ha (Ne.symm hne) (fits hfit)
    rw [walk, antennaOrder, ascending_eq_finRange] at stored
    refine row (setParam_of_ok hl (stored.trans (congrArg _ ?_)) _)
    refine foldl_congr_params (p := new) (fun t a => (airtimeChanged_rest _ t a).params) (fun t a ht => ?_) _ _ rfl
    rw [airtimeChanged_eq, ht]
    by_cases hup : (t.ant a).state = .down
    · rw [if_pos hup, if_pos hup]
    · rw [if_neg hup, if_neg hup, State.modAnt, Antenna.retimed, if_neg hup]
      rfl
  case idle =>
    have stored := storeParam_of_fits ha (Ne.symm hne) (fits hfit)
    rw [walk, antennaOrder, ascending_eq_finRange,
      foldl_airtimeChanged_of_empty (s := { s with params := new }) _ (List.nodup_finRange 64) hempty,
      State.retimed_all] at stored
    exact row (setParam_of_ok hl stored _)

end Sys2Proof.Machine
end

section
/-! KEY off (R69): what becomes of the key and the seats from each key state. -/

namespace Sys2Proof.Machine

/-- The links that may send KEY for a record may (R66). -/
theorem mayKey_of_owner {l : LinkId} {r : Record} {s : State}
    (h : r.state = .adrift ∨ ∃ v, r.serving = some v ∧ s.owner v.antenna = some l) : mayKey l r s = true := by
  rcases h with ha | ⟨v, hv, ho⟩
  · simp [mayKey, ha]
  · simp [mayKey, hv, ho]

/-- A KEY reply for an OFF key (R166). -/
theorem keyFields_of_off {i : RosterIx} {s : State} {r : Record} (hr : s.rec? i = some r) (hk : r.key = .off) :
    keyFields i s = [0, 0] := by
  simp [keyFields, hr, hk, KeyState.code]

/-- A key set OFF is answered as OFF (R69, R166). -/
theorem keyAnswer_of_setKey_off {i : RosterIx} {s : State} {r : Record} (hr : s.rec? i = some r) :
    keyAnswer i .ok (setKey i .off s) =
      { state := s.modRec i fun q => { q with key := .off }, status := .ok, fields := [0, 0] } := by
  unfold keyAnswer
  rw [keyFields_of_off (r := { r with key := .off }) (by rw [setKey, State.rec?_modRec_self, hr]; rfl) rfl]
  rfl

/-- A seat lowered keeps the record's entry. -/
theorem burstLowered_kept (s : State) (a : AntennaId) (g : GroupIx) (n : SeatNo) (p : Profile) :
    Kept s (s.burstLowered a g n p) :=
  (modAnt_kept ⟨rfl, rfl⟩).trans (roomMade_kept ..)

/-- An ON key's serving seat is lowered (R52, R69). -/
theorem lowerServing_eq {r : Record} {v : Serving} (hv : r.serving = some v) (s : State) :
    lowerServing r s = s.burstLowered v.antenna v.group v.seat r.profile := by
  unfold lowerServing
  rw [hv]
  rfl

section
variable {s : State} {r : Record}

theorem lowerReserved_of_none (h : ∀ x, s.entryOf? r = some x → x.reserved = none) : lowerReserved r s = s := by
  unfold lowerReserved
  cases hx : s.entryOf? r with
  | none => rfl
  | some x => simp only [h x hx]

/-- A reserved seat is lowered where it carries the talk burst (R69). -/
theorem lowerReserved_of_some {x : Entry} {g : GroupIx} {n : SeatNo} (hx : s.entryOf? r = some x)
    (hg : x.reserved = some (g, n)) :
    lowerReserved r s =
      if s.keyedSeat x.target g n r.profile = true then s.burstLowered x.target g n r.profile else s := by
  unfold lowerReserved
  simp only [hx, hg, keyedSeat_iff]
  rfl

end

/-- Settles O29: a case for each key state, the ON key's two seats one after the other. -/
theorem keyOffReleasesTheKey : Obligations.KeyOffReleasesTheKey := by
  intro s l tag h i r hq hvalid hf hr hmay
  have row : ∀ {t : State} {fields},
      keyAnswer i .ok (releaseKey i r s) = { state := t, status := .ok, fields := fields } →
      exec (.keyOff l tag h) s = .next (t.replied l 0x0C tag .ok fields) := fun ha =>
    request_of_perform hq tag (.key h 0x00) 0x0C rfl ((doKey_off ..).trans
      ((withHeadset_of_known hvalid hf hr ..).trans ((if_neg (by simp [mayKey_of_owner hmay])).trans ha)))
  have lowered : ∀ {u : State}, Kept s u → releaseKey i r s = setKey i .off u →
      exec (.keyOff l tag h) s = .next
        ((u.modRec i fun q => { q with key := .off }).replied l 0x0C tag .ok [0, 0]) := fun hkept hu => by
    obtain ⟨q, hqr, -⟩ := hkept.forth hr
    exact row ((congrArg _ hu).trans (keyAnswer_of_setKey_off hqr))
  have on : ∀ v, r.key = .on → r.serving = some v → releaseKey i r s =
      setKey i .off (lowerReserved r (s.burstLowered v.antenna v.group v.seat r.profile)) := fun v hk hv => by
    simp only [releaseKey, hk, lowerServing_eq hv]
  refine ⟨fun hk => ?off, fun hk => ?pending, fun v hk hv => ?waiting, fun v hk hv => ?on,
    fun v seat hk hv hh hempty hseat hb => ?alone⟩
  case off =>
    refine row ?_
    simp only [releaseKey, hk, keyAnswer, keyFields_of_off hr hk]
  case pending =>
    rw [← State.modRec_of_some hr fun q => { q with key := .off }]
    exact lowered (.refl s) (by simp only [releaseKey, hk])
  case waiting =>
    rw [← State.modRec_of_some (s := s.modAnt _ _) hr fun q => { q with key := .off }]
    refine lowered (modAnt_kept ⟨rfl, rfl⟩) ?_
    simp only [releaseKey, hk, leaveOwnQueue, hv]
    rfl
  case on =>
    intro t run
    have hkept : Kept s t := burstLowered_kept ..
    have entry : t.entryOf? r = s.entryOf? r := entryOf?_of_handoffs hkept.1 r
    refine ⟨fun hnone => ?_, fun x g n hx hg => ?_⟩
    · exact lowered hkept ((on v hk hv).trans (by rw [lowerReserved_of_none (by rwa [entry])]))
    · have both := on v hk hv
      rw [lowerReserved_of_some (entry.trans hx) hg] at both
      refine ⟨fun hkeyed => ?_, fun hkeyed => ?_⟩
      · rw [if_pos hkeyed] at both
        exact lowered (hkept.trans (burstLowered_kept ..)) both
      · rw [if_neg (by simp [t, hkeyed])] at both
        exact lowered hkept both
  case alone =>
    have low : s.burstLowered v.antenna v.group v.seat r.profile =
        clearBlocked v.antenna (s.modAnt v.antenna fun x => x.withPlan s.params (putSeat x.plan v.group v.seat
          (some { seat with burst := r.profile.listenBurst }))) := by
      rw [← lowerSeat_eq, lowerSeat_of_empty hempty hseat, Seat.lowered, if_pos hb]
    have unentered : lowerReserved r (s.burstLowered v.antenna v.group v.seat r.profile) = _ :=
      lowerReserved_of_none fun x hx => by rw [entryOf?_of_none hh] at hx; cases hx
    have written := lowered (burstLowered_kept ..) ((on v hk hv).trans (by rw [unentered]))
    rwa [low, State.modRec_of_some (r := r.unblock v.antenna) (by simp [hr])] at written

end Sys2Proof.Machine
end

section
/-! Completion of a MOVING handoff (R127): by ARRIVED (R124) and by a LEVELS pair from the target (R80, R96), in general
and written out where nothing waits. -/

namespace Sys2Proof.Machine

/-! ### What a completion keeps -/

/-- A reserved seat converted keeps the handoff table, the antennas' states and every record's face (R54). -/
theorem converted_kept (s : State) (a : AntennaId) (g : GroupIx) (n : SeatNo) (r : Record) :
    Kept s (s.converted a g n r) := by
  unfold State.converted
  dsimp only
  split
  · exact (modAnt_kept ⟨rfl, rfl⟩).trans (burstLowered_kept ..)
  · exact modAnt_kept ⟨rfl, rfl⟩

/-- The state after the first two steps of a completion: the old seat released, the reserved seat converted (R127). -/
def State.crossed (s : State) (t : AntennaId) (g : GroupIx) (n : SeatNo) (r : Record) : State :=
  (releaseServing r s).converted t g n r

/-- The two steps leave the handoff table and every antenna's owner. -/
theorem crossed_table (s : State) (t : AntennaId) (g : GroupIx) (n : SeatNo) (r : Record) :
    (s.crossed t g n r).handoffs = s.handoffs ∧ ∀ a, (s.crossed t g n r).owner a = s.owner a := by
  obtain ⟨hconv, hants, -⟩ := converted_kept (releaseServing r s) t g n r
  have left : (releaseServing r s).handoffs = s.handoffs ∧ ∀ a, (releaseServing r s).owner a = s.owner a := by
    cases hv : r.serving with
    | none => rw [releaseServing_of_unserved hv]; exact ⟨rfl, fun _ => rfl⟩
    | some v =>
      rw [releaseServing_of_served hv]
      obtain ⟨htable, howner, -⟩ := seatReleased_kept s v.antenna v.group v.seat r.listen
      exact ⟨htable, fun a => (howner a).1⟩
  exact ⟨hconv.trans left.1, fun a => (hants a).2.trans (left.2 a)⟩

/-- The headset's record has the same face after the two steps. -/
theorem crossed_rec? {s : State} {i : RosterIx} {r : Record} (hr : s.rec? i = some r) (t : AntennaId) (g : GroupIx)
    (n : SeatNo) : ∃ q, (s.crossed t g n r).rec? i = some q ∧ q.face = r.face := by
  have left : ∃ q, (releaseServing r s).rec? i = some q ∧ q.face = r.face := by
    cases hv : r.serving with
    | none => rw [releaseServing_of_unserved hv]; exact ⟨r, hr, rfl⟩
    | some v =>
      rw [releaseServing_of_served hv]
      have face := (seatReleased_kept s v.antenna v.group v.seat r.listen).2.2 i
      rw [hr, Option.map_some, Option.map_eq_some_iff] at face
      exact face
  obtain ⟨q, hq, hface⟩ := left
  obtain ⟨q', hq', hface'⟩ := (converted_kept (releaseServing r s) t g n r).forth hq
  exact ⟨q', hq', hface'.trans hface⟩

/-- Records of one face hold candidate entries of the same levels. -/
theorem heldLevel_of_face {q r : Record} (h : q.face = r.face) {t : AntennaId} {c : Candidate}
    (hc : r.candidates.find? (fun d => d.antenna == t) = some c) (old : Nat) :
    heldLevel q.candidates t old = c.f16 := by
  have hlist : q.candidates.map (fun d => { d with blocked := false }) =
      r.candidates.map fun d => { d with blocked := false } :=
    congrArg Record.candidates (a₁ := q.face) (a₂ := r.face) h
  have hfound := congrArg (List.find? fun d => d.antenna == t) hlist
  rw [List.find?_map, List.find?_map] at hfound
  simp only [Function.comp_def, hc, Option.map_some, Option.map_eq_some_iff] at hfound
  obtain ⟨d, hd, hdc⟩ := hfound
  unfold heldLevel
  rw [hd]
  exact congrArg Candidate.f16 (a₁ := { d with blocked := false }) (a₂ := { c with blocked := false }) hdc

/-! ### Completion (R127, R128) -/

/-- The record after steps 2 to 7 of a completion at t, group g, seat n. -/
def Record.arrived (t : AntennaId) (g : GroupIx) (n : SeatNo) (offer : Option AntennaId) (q : Record) : Record :=
  { q.completeFilter t offer with
    serving := some { antenna := t, group := g, seat := n }
    state := .settled
    handoff := none
    serveLost := some Timer.start
    retain := none }

/-- A change that a record does not show is none. -/
theorem modRec_of_fixed {s : State} {i : RosterIx} {r : Record} {f : Record → Record} (hr : s.rec? i = some r)
    (hf : f r = r) : s.modRec i f = s := by
  rw [State.modRec_of_some hr, hf, ← hr, State.setRec_rec?]

/-- An entry whose record no longer refers to it leaves the table and nothing else. -/
theorem freeEntry_of_unreferenced {s : State} {x : Entry} {r : Record} (hx : s.entry? x.num = some x)
    (hr : s.rec? x.headset = some r) (hh : r.handoff = none) :
    s.freeEntry x.num = { s with handoffs := s.handoffs.filter fun y => y.num != x.num } := by
  rw [State.freeEntry_of_some hx]
  exact modRec_of_fixed (r := r) hr (by rw [← hh])

/-- Completion of an entry in use: the two steps at the seats, the record, a PENDING key applied, the entry freed, and
the depth release of the target's owner (R127, R74, R111). -/
theorem completeEntry_eq {s : State} {x : Entry} {r : Record} {g : GroupIx} {n : SeatNo}
    (hx : s.entry? x.num = some x) (hr : s.rec? x.headset = some r) (hg : x.reserved = some (g, n)) :
    completeEntry x.num s = depthReleaseFor (depthLink s x)
      { ((s.crossed x.target g n r).modRec x.headset
          (Record.arrived x.target g n (offerOf (s.crossed x.target g n r) r))).keyApplied x.headset with
        handoffs := s.handoffs.filter fun y => y.num != x.num } := by
  have unfolded : completeEntry x.num s = depthReleaseFor (depthLink s x)
      ((applyPending x.headset ((s.crossed x.target g n r).modRec x.headset
        (Record.arrived x.target g n (offerOf (s.crossed x.target g n r) r)))).freeEntry x.num) := by
    unfold completeEntry
    simp only [hx, hr, hg, convertSeat_eq]
    rfl
  obtain ⟨q, hq, -⟩ := crossed_rec? hr x.target g n
  rw [unfolded, applyPending_modRec fun _ => rfl]
  generalize hu : (s.crossed x.target g n r).modRec x.headset
    (Record.arrived x.target g n (offerOf (s.crossed x.target g n r) r)) = u
  have hurec : u.rec? x.headset = some (q.arrived x.target g n (offerOf (s.crossed x.target g n r) r)) := by
    rw [← hu, State.rec?_modRec_self, hq]
    rfl
  have hutable : (u.keyApplied x.headset).handoffs = s.handoffs := by
    rw [(keyApplied_kept ..).1, ← hu, State.modRec_handoffs, (crossed_table ..).1]
  obtain ⟨p, hp, hface⟩ := (keyApplied_kept x.headset u).forth hurec
  obtain ⟨-, -, -, hnone, -⟩ := face_fields hface
  rw [freeEntry_of_unreferenced (by rw [State.entry?, hutable]; exact hx) hp hnone, hutable]

/-- The end of a MOVING entry lowers the depth of its target's owner (R109). -/
theorem depthLink_of_moving {s : State} {x : Entry} (hp : x.phase = .moving) : depthLink s x = s.owner x.target := by
  simp [depthLink, hp]

/-- Completion where no entry is QUEUED for the target's owner: no depth release follows. -/
theorem completeEntry_of_none_queued {s : State} {x : Entry} {r : Record} {g : GroupIx} {n : SeatNo} {l : LinkId}
    (hx : s.entry? x.num = some x) (hr : s.rec? x.headset = some r) (hg : x.reserved = some (g, n))
    (hp : x.phase = .moving) (ho : s.owner x.target = some l)
    (hnone : ∀ y ∈ s.handoffs, y.phase = .queued → s.owner y.target ≠ some l) :
    completeEntry x.num s =
      ({ (s.crossed x.target g n r).modRec x.headset
          (Record.arrived x.target g n (offerOf (s.crossed x.target g n r) r)) with
        handoffs := s.handoffs.filter fun y => y.num != x.num } : State).keyApplied x.headset := by
  rw [completeEntry_eq hx hr hg, depthLink_of_moving hp, ho]
  generalize hu : (s.crossed x.target g n r).modRec x.headset
    (Record.arrived x.target g n (offerOf (s.crossed x.target g n r) r)) = u
  rw [keyApplied_withHandoffs u x.headset (s.handoffs.filter fun y => y.num != x.num)]
  refine depthRelease_of_none fun y hy hq => ?_
  have howner : (u.keyApplied x.headset).owner y.target = s.owner y.target := by
    rw [((keyApplied_kept x.headset u).2.1 y.target).2, ← hu, State.modRec_owner, (crossed_table ..).2]
  exact howner ▸ hnone y (List.mem_filter.1 hy).1 hq

/-! ### The requests -/

/-- A pair from the target of a MOVING handoff is an arrival (R80, row 4; R96). -/
theorem classify_of_arrival {s : State} {r : Record} {x : Entry} (hx : s.entryOf? r = some x) (hp : x.phase = .moving)
    (hv : ∀ v, r.serving = some v → v.antenna ≠ x.target) (level : Byte) :
    classify s r x.target level = .arrival x.num := by
  have hs : ¬ (r.state ≠ .adrift ∧ r.serving.map Serving.antenna = some x.target) := by
    rintro ⟨-, h⟩
    obtain ⟨v, hsv, hat⟩ := Option.map_eq_some_iff.1 h
    exact hv v hsv hat
  rw [classify, if_neg hs]
  simp [startedToward, hx, hp]

section
variable {s : State} {l : LinkId} {h : HeadsetId} {x : Entry} {r : Record} {g : GroupIx} {n : SeatNo} {c : Candidate}
  (hq : Ready l s) (hvalid : validHeadset h = true) (hf : s.findHeadset h = some x.headset)
  (hr : s.rec? x.headset = some r) (hx : s.entryOf? r = some x) (hp : x.phase = .moving)
  (ho : s.owner x.target = some l)
include hq hvalid hf hr hx hp ho

/-- ARRIVED from the target's owner completes the handoff (R124). -/
theorem exec_arrived_of_moving (tag : Byte) :
    exec (.arrived l tag h (byteOf x.target.val)) s = .next ((completeEntry x.num s).replied l 0x12 tag .ok []) := by
  refine request_of_perform hq tag (.arrived h (byteOf x.target.val)) 0x12 rfl
    ((doArrived_byteOf ..).trans ((withHeadset_of_known hvalid hf hr ..).trans ?_))
  simp only [arrivedAt, movingToward_of_moving hx hp, ho, if_true]

/-- A LEVELS pair from the target completes the handoff, whatever its level (R96). -/
theorem exec_levels_of_moving (hv : ∀ v, r.serving = some v → v.antenna ≠ x.target) (tag level : Byte) :
    exec (.levels l tag (byteOf x.target.val) [(h, level)]) s =
      .next ((completeEntry x.num s).replied l 0x0A tag .ok [1, 0]) := by
  refine request_of_perform hq tag (.levels (byteOf x.target.val) [(h, level)]) 0x0A rfl (doLevels_one hvalid ho ?_)
  simp only [applyPair, hf, hr, classify_of_arrival hx hp hv]

/-- Both requests leave what the completion leaves. -/
theorem exec_completion {t : State} (ht : completeEntry x.num s = t)
    (hv : ∀ v, r.serving = some v → v.antenna ≠ x.target) (tag level : Byte) :
    exec (.arrived l tag h (byteOf x.target.val)) s = .next (t.replied l 0x12 tag .ok []) ∧
      exec (.levels l tag (byteOf x.target.val) [(h, level)]) s = .next (t.replied l 0x0A tag .ok [1, 0]) :=
  ht ▸ ⟨exec_arrived_of_moving hq hvalid hf hr hx hp ho tag,
    exec_levels_of_moving hq hvalid hf hr hx hp ho hv tag level⟩

end

/-! ### The record and the state written out -/

/-- The record that arrives: F16S is the target candidate's level, and the old antenna, if it is ACTIVE and not among
the candidates left, is placed with them (R127, R128). -/
theorem arrived_eq {q r : Record} {t : AntennaId} {c : Candidate} (hface : q.face = r.face)
    (hc : r.candidates.find? (fun d => d.antenna == t) = some c) (g : GroupIx) (n : SeatNo) (s : State) :
    q.arrived t g n (offerOf s r) =
      let rest := (q.candidates.filter fun d => d.antenna != t).map fun d => { d with dwell := 0 }
      { q with
        state := .settled, serving := some { antenna := t, group := g, seat := n }, f16s := c.f16, weak := false
        candidates := match r.serving with
          | none => rest
          | some v =>
            if (s.ant v.antenna).state = .active ∧ ∀ d ∈ rest, d.antenna ≠ v.antenna then
              placeCandidate (offeredCandidate v.antenna q.f16s) rest
            else rest
        serveLost := some Timer.start, retain := none, handoff := none } := by
  unfold Record.arrived Record.completeFilter
  rw [heldLevel_of_face hface hc]
  unfold offerOf dropCandidate
  cases hv : r.serving with
  | none => rfl
  | some v =>
    dsimp only
    by_cases ha : (s.ant v.antenna).state = .active
    · cases hin : hasCandidate ((q.candidates.filter fun d => d.antenna != t).map fun d => { d with dwell := 0 })
        v.antenna with
      | true =>
        have hno : ¬ ∀ d ∈ (q.candidates.filter fun d => d.antenna != t).map (fun d => { d with dwell := 0 }),
            d.antenna ≠ v.antenna := fun h => by rw [hasCandidate_eq_false.2 h] at hin; cases hin
        rw [if_pos ha, if_neg fun h => hno h.2]
        simp only [hin, if_true]
      | false =>
        rw [if_pos ha, if_pos ⟨ha, hasCandidate_eq_false.1 hin⟩]
        simp only [hin, Bool.false_eq_true, if_false]
    · rw [if_neg ha, if_neg fun h => ha h.1]

theorem unblock_face (a : AntennaId) (r : Record) : (r.unblock a).face = r.face := by
  simp only [Record.face, Record.unblock, List.map_map]
  congr 2
  funext c
  simp only [Function.comp]
  split <;> rfl

/-- The candidate list that completion leaves, where the old antenna's blocked flags were cleared with its seat. -/
theorem arrived_unblock {r : Record} {t : AntennaId} {v : Serving} {c : Candidate} (hv : r.serving = some v)
    (hc : r.candidates.find? (fun d => d.antenna == t) = some c) (g : GroupIx) (n : SeatNo) (s : State) :
    (r.unblock v.antenna).arrived t g n (offerOf s r) =
      r.completed t v.antenna ((s.ant v.antenna).state == AntennaState.active) g n c.f16 := by
  have rest : (((r.unblock v.antenna).candidates.filter fun d => d.antenna != t).map fun d => { d with dwell := 0 }) =
      (r.candidates.filter fun d => d.antenna != t).map fun d =>
        if d.antenna = v.antenna then { d with dwell := 0, blocked := false } else { d with dwell := 0 } := by
    have named : (fun d : Candidate => d.antenna != t) ∘
        (fun d => if d.antenna = v.antenna then { d with blocked := false } else d) = fun d => d.antenna != t := by
      funext d
      simp only [Function.comp]
      split <;> rfl
    simp only [Record.unblock, List.filter_map, List.map_map, named]
    congr 1
    funext d
    simp only [Function.comp]
    split <;> rfl
  rw [arrived_eq (unblock_face ..) hc, hv]
  unfold Record.completed completedList
  simp only [rest]
  congr 1
  refine if_congr ?_ rfl rfl
  rw [Bool.and_eq_true, beq_iff_eq, Bool.not_eq_true', List.any_eq_false]
  simp only [beq_iff_eq]

/-- A change of an antenna is known by what it makes of the antenna that stands there. -/
theorem modAnt_congr {s : State} {a : AntennaId} {f f' : Antenna → Antenna} (h : f (s.ant a) = f' (s.ant a)) :
    s.modAnt a f = s.modAnt a f' := by
  unfold State.modAnt
  rw [h]

/-- A reserved seat whose burst needs no lowering becomes the serving seat as it stands (R54). -/
theorem converted_of_burst {s : State} {a : AntennaId} {g : GroupIx} {n : SeatNo} {r : Record} {seat : Seat}
    (hseat : ((s.ant a).plan.get g).seat n = some seat) (hb : r.key = .on ∨ seat.burst ≠ r.profile.talkBurst) :
    s.converted a g n r =
      s.modAnt a fun y => y.withPlan s.params (putSeat y.plan g n (some { seat with kind := .serving })) := by
  have hkeyed : ¬ (r.key ≠ .on ∧ s.keyedSeat a g n r.profile = true) := by
    rintro ⟨hk, hs⟩
    rw [keyedSeat_iff, hseat] at hs
    exact hb.elim hk fun h => h hs
  unfold State.converted
  rw [if_neg hkeyed]
  exact modAnt_congr (by rw [hseat]; rfl)

theorem crossed_of_unserved {s : State} {t : AntennaId} {g : GroupIx} {n : SeatNo} {r : Record} {seat : Seat}
    (hv : r.serving = none) (hseat : ((s.ant t).plan.get g).seat n = some seat)
    (hb : r.key = .on ∨ seat.burst ≠ r.profile.talkBurst) :
    s.crossed t g n r =
      s.modAnt t fun y => y.withPlan s.params (putSeat y.plan g n (some { seat with kind := .serving })) := by
  rw [State.crossed, releaseServing_of_unserved hv, converted_of_burst hseat hb]

theorem crossed_of_empty {s : State} {t : AntennaId} {g : GroupIx} {n : SeatNo} {r : Record} {v : Serving} {seat : Seat}
    (hv : r.serving = some v) (hne : v.antenna ≠ t) (hempty : (s.ant v.antenna).queue = [])
    (hseat : ((s.ant t).plan.get g).seat n = some seat) (hb : r.key = .on ∨ seat.burst ≠ r.profile.talkBurst) :
    s.crossed t g n r = clearBlocked v.antenna
      ((s.modAnt v.antenna (Antenna.vacated s.params v.group v.seat r.listen)).modAnt t fun y =>
        y.withPlan s.params (putSeat y.plan g n (some { seat with kind := .serving }))) := by
  rw [State.crossed, releaseServing_of_served hv, State.seatReleased_of_empty hempty, converted_of_burst _ hb]
  · rfl
  · rwa [clearBlocked_ant, State.ant_modAnt, if_neg hne]

/-- The old antenna is offered where it was ACTIVE before its seat was released (R128). -/
theorem crossed_active {s : State} {t : AntennaId} {g : GroupIx} {n : SeatNo} {r : Record} {v : Serving} {seat : Seat}
    (hv : r.serving = some v) (hne : v.antenna ≠ t) (hempty : (s.ant v.antenna).queue = [])
    (hseat : ((s.ant t).plan.get g).seat n = some seat) (hb : r.key = .on ∨ seat.burst ≠ r.profile.talkBurst) :
    (((s.crossed t g n r).ant v.antenna).state == AntennaState.active) =
      ((s.ant v.antenna).state == AntennaState.active) := by
  rw [crossed_of_empty hv hne hempty hseat hb, clearBlocked_ant, State.ant_modAnt, if_neg hne.symm,
    State.ant_modAnt_self]
  unfold Antenna.vacated
  dsimp only
  split
  · next h => rw [h.1]; rfl
  · rfl

/-- Settles O8: the two requests reach the one completion, which is then written out in its two cases. -/
theorem handoffsComplete : Obligations.HandoffsComplete := by
  refine ⟨?general, ?written⟩
  case general =>
    intro s l tag h level x i r g n c hq hvalid hf hr hh hx hi hp hg ho hc hv left seated settled t
    subst hi
    have he : s.entryOf? r = some x := entryOf?_of_some hh hx
    have hseated : seated = s.crossed x.target g n r := by
      have hleft : left = releaseServing r s := by
        cases hsv : r.serving with
        | none => rw [releaseServing_of_unserved hsv]; simp only [left, hsv]
        | some v => rw [releaseServing_of_served hsv]; simp only [left, hsv]
      rw [State.crossed, ← hleft]
    have hsettled : settled = (s.crossed x.target g n r).modRec x.headset
        (Record.arrived x.target g n (offerOf (s.crossed x.target g n r) r)) := by
      obtain ⟨q, hqr, hface⟩ := crossed_rec? hr x.target g n
      rw [State.modRec_of_some hqr, arrived_eq hface hc, ← hseated]
      exact State.modRec_of_some (by rw [hseated, hqr]) _
    have complete : completeEntry x.num s = t := by
      rw [completeEntry_eq hx hr hg, depthLink_of_moving hp, ho, ← hsettled]
      rfl
    exact exec_completion hq hvalid hf hr he hp ho complete hv tag level
  case written =>
    intro s l tag h level x i r g n seat c hq hvalid hf hr hh hx hi hp hg ho hseat hb hc hnone
    subst hi
    have he : s.entryOf? r = some x := entryOf?_of_some hh hx
    have complete := completeEntry_of_none_queued hx hr hg hp ho hnone
    refine ⟨fun v hv hne hempty => ?served, fun hv => ?adrift⟩
    case served =>
      intro t
      have ht : completeEntry x.num s = t := by
        have hrec : (s.crossed x.target g n r).rec? x.headset = some (r.unblock v.antenna) := by
          rw [crossed_of_empty hv hne hempty hseat hb, clearBlocked_rec?, State.modAnt_rec?, State.modAnt_rec?, hr]
          rfl
        rw [complete, State.modRec_of_some hrec, arrived_unblock hv hc, crossed_active hv hne hempty hseat hb,
          crossed_of_empty hv hne hempty hseat hb]
        rfl
      exact exec_completion hq hvalid hf hr he hp ho ht (fun w hw => Option.some.inj (hv.symm.trans hw) ▸ hne) tag level
    case adrift =>
      intro u t
      have ht : completeEntry x.num s = t := by
        have hu : s.crossed x.target g n r = u := crossed_of_unserved hv hseat hb
        have hrec : u.rec? x.headset = some r := by rwa [State.modAnt_rec?]
        rw [complete, hu, State.modRec_of_some hrec, arrived_eq rfl hc, hv]
        rfl
      exact exec_completion hq hvalid hf hr he hp ho ht (fun w hw => by rw [hv] at hw; cases hw) tag level

end Sys2Proof.Machine
end

section
/-! The order of the handoff table and of the key wait queues (R70, R106) under the state's writes and the shared
operations: none of them makes two entries of one number or a queue of more than four. -/

namespace Sys2Proof.Machine

/-! ### The order of the table and the queues -/

/-- Numbers from 0 to 15 without a repetition are sixteen at most, so that distinct numbers bound the table (R106). -/
theorem tableInOrder_iff_nodup {s : State} : TableInOrder s ↔ (s.handoffs.map Entry.num).Nodup :=
  ⟨And.right, fun h => ⟨by simpa using h.length_le_card, h⟩⟩

/-- From s to t the table's distinct numbers are kept, and so is the bound of every queue. -/
def OrderKept (s t : State) : Prop :=
  ((s.handoffs.map Entry.num).Nodup → (t.handoffs.map Entry.num).Nodup) ∧
    ∀ a, (s.ant a).queue.length ≤ 4 → (t.ant a).queue.length ≤ 4

namespace OrderKept

theorem refl (s : State) : OrderKept s s := ⟨id, fun _ => id⟩

theorem trans {s t u : State} (h : OrderKept s t) (k : OrderKept t u) : OrderKept s u :=
  ⟨k.1 ∘ h.1, fun a => k.2 a ∘ h.2 a⟩

/-- A fold of operations that each keep the order keeps it. -/
theorem foldl {α : Type} (f : State → α → State) (hf : ∀ s a, OrderKept s (f s a)) :
    ∀ (l : List α) (s : State), OrderKept s (l.foldl f s)
  | [], s => .refl s
  | a :: rest, s => (hf s a).trans (OrderKept.foldl f hf rest (f s a))

theorem tableInOrder {s t : State} (h : OrderKept s t) (hs : TableInOrder s) : TableInOrder t :=
  tableInOrder_iff_nodup.2 (h.1 hs.2)

theorem queuesInOrder {s t : State} (h : OrderKept s t) (hs : QueuesInOrder s) : QueuesInOrder t :=
  fun a => h.2 a (hs a)

end OrderKept

/-! ### The state's own writes -/

/-- What leaves the entries' numbers and the antennas keeps the order. -/
theorem orderKept_of_nums {s t : State} (hn : t.handoffs.map Entry.num = s.handoffs.map Entry.num)
    (ha : t.antennas = s.antennas) : OrderKept s t := by
  refine ⟨fun h => hn ▸ h, fun a => ?_⟩
  rw [show t.ant a = s.ant a by unfold State.ant; rw [ha]]
  exact id

theorem setRec_orderKept (s : State) (i : RosterIx) (r : Option Record) : OrderKept s (s.setRec i r) :=
  orderKept_of_nums rfl rfl

theorem modRec_orderKept (s : State) (i : RosterIx) (f : Record → Record) : OrderKept s (s.modRec i f) :=
  orderKept_of_nums (by rw [State.modRec_handoffs]) (State.modRec_antennas ..)

theorem modLink_orderKept (s : State) (l : LinkId) (f : Link → Link) : OrderKept s (s.modLink l f) :=
  orderKept_of_nums rfl rfl

/-- The entries changed, each under its number. -/
theorem map_num_eq {l : List Entry} {f : Entry → Entry} (hf : ∀ x, (f x).num = x.num) :
    (l.map f).map Entry.num = l.map Entry.num := by
  rw [List.map_map]
  exact List.map_congr_left fun x _ => hf x

theorem modEntry_orderKept (s : State) (e : EntryNo) {f : Entry → Entry} (hf : ∀ x, (f x).num = x.num) :
    OrderKept s (s.modEntry e f) := by
  refine orderKept_of_nums (map_num_eq fun x => ?_) rfl
  split
  · exact hf x
  · rfl

theorem freeEntry_orderKept (s : State) (e : EntryNo) : OrderKept s (s.freeEntry e) := by
  unfold State.freeEntry
  split
  · exact .refl s
  · refine .trans (t := { s with handoffs := s.handoffs.filter fun y => y.num != e }) ⟨fun h => ?_, fun _ => id⟩
      (modRec_orderKept ..)
    exact h.sublist (List.filter_sublist.map _)

/-- An entry with a number that is not in use joins the table. -/
theorem append_orderKept {s : State} {x : Entry} (h : ∀ y ∈ s.handoffs, y.num ≠ x.num) (n : BitVec 32) :
    OrderKept s { s with handoffs := s.handoffs ++ [x], seqCounter := n } := by
  refine ⟨fun hn => ?_, fun _ => id⟩
  rw [List.map_append]
  exact hn.append (List.nodup_singleton _) (by simpa using h)

/-- An antenna written whose queue keeps its bound. -/
theorem modAnt_orderKept {s : State} {a : AntennaId} {f : Antenna → Antenna}
    (h : (s.ant a).queue.length ≤ 4 → (f (s.ant a)).queue.length ≤ 4) : OrderKept s (s.modAnt a f) := by
  refine ⟨id, fun b => ?_⟩
  rw [State.ant_modAnt]
  split
  · next hab => exact hab ▸ h
  · exact id

theorem setPlan_orderKept (s : State) (a : AntennaId) (plan : Vector Group 16) : OrderKept s (s.setPlan a plan) :=
  modAnt_orderKept id

theorem setCarriage_orderKept (s : State) (a : AntennaId) (c : Vector Nat 16) : OrderKept s (s.setCarriage a c) :=
  modAnt_orderKept id

/-! ### The Frame Planner -/

theorem takeSeat_orderKept (a : AntennaId) (p : Placement) (x : Seat) (c : ListenSet) (s : State) :
    OrderKept s (takeSeat a p x c s) :=
  (setPlan_orderKept ..).trans (setCarriage_orderKept ..)

theorem unseat_orderKept (a : AntennaId) (g : GroupIx) (n : SeatNo) (c : ListenSet) (s : State) :
    OrderKept s (unseat a g n c s) :=
  (setPlan_orderKept ..).trans (setCarriage_orderKept ..)

theorem rePlace?_orderKept {s t : State} {i : RosterIx} {m : Bool} (h : rePlace? s i = some (t, m)) :
    OrderKept s t := by
  obtain ⟨r, v, p, -, -, -, -, -, rfl⟩ := rePlace?_some h
  exact (setPlan_orderKept ..).trans (setRec_orderKept ..)

/-- Writing a record and an antenna's plan leaves the queues, so a head granted finds its queue as it stood. -/
theorem rePlace?_queue {s t : State} {i : RosterIx} {m : Bool} (h : rePlace? s i = some (t, m)) (a : AntennaId) :
    (t.ant a).queue = (s.ant a).queue := by
  obtain ⟨r, v, p, -, -, -, -, -, rfl⟩ := rePlace?_some h
  rw [State.setRec_ant, State.setPlan, State.ant_modAnt]
  split
  · next hab => rw [hab]
  · rfl

/-- Each grant of a queue trial shortens the queue (R57). -/
theorem queueTrialLoop_orderKept (a : AntennaId) : ∀ (n : Nat) (s : State), OrderKept s (queueTrialLoop a n s)
  | 0, s => .refl s
  | n + 1, s => by
    unfold queueTrialLoop
    split
    · exact .refl s
    · next j rest hq =>
      split
      · exact .refl s
      · next h =>
        refine (rePlace?_orderKept h).trans (.trans (modAnt_orderKept fun hle => ?_) (queueTrialLoop_orderKept a n _))
        rw [rePlace?_queue h, hq, List.length_cons] at hle
        exact Nat.le_of_succ_le hle

theorem roomMade_orderKept (a : AntennaId) (s : State) : OrderKept s (roomMade a s) :=
  (orderKept_of_nums (t := clearBlocked a s) rfl rfl).trans (queueTrialLoop_orderKept ..)

theorem closureCheck_orderKept (a : AntennaId) (s : State) : OrderKept s (closureCheck a s) := by
  unfold closureCheck
  split
  · exact modAnt_orderKept id
  · exact .refl s

theorem releaseSeat_orderKept (a : AntennaId) (g : GroupIx) (n : SeatNo) (c : ListenSet) (s : State) :
    OrderKept s (releaseSeat a g n c s) :=
  (unseat_orderKept a g n c s).trans ((roomMade_orderKept ..).trans (closureCheck_orderKept ..))

theorem lowerSeat_orderKept (a : AntennaId) (g : GroupIx) (n : SeatNo) (p : Profile) (s : State) :
    OrderKept s (lowerSeat a g n p s) :=
  (setPlan_orderKept ..).trans (roomMade_orderKept ..)

theorem convertSeat_orderKept (a : AntennaId) (g : GroupIx) (n : SeatNo) (r : Record) (s : State) :
    OrderKept s (convertSeat a g n r s) := by
  unfold convertSeat
  dsimp only
  split
  · exact (setPlan_orderKept ..).trans (lowerSeat_orderKept ..)
  · exact setPlan_orderKept ..

theorem leaveQueue_orderKept (a : AntennaId) (i : RosterIx) (s : State) : OrderKept s (leaveQueue a i s) :=
  modAnt_orderKept ((List.length_filter_le ..).trans)

/-- A headset joins a queue only while that holds fewer than four (R70). -/
theorem joinQueue_orderKept {a : AntennaId} {s : State} (h : (s.ant a).queue.length < Config.maxQueue) (i : RosterIx) :
    OrderKept s (joinQueue a i s) := by
  refine .trans (modAnt_orderKept fun _ => ?_) (modRec_orderKept ..)
  rw [List.length_append]
  exact h

theorem keyPress_orderKept (i : RosterIx) (s : State) : OrderKept s (keyPress i s).1 := by
  unfold keyPress
  split
  · exact .refl s
  · split
    · next h =>
      dsimp only
      split
      · exact (rePlace?_orderKept h).trans (roomMade_orderKept ..)
      · exact rePlace?_orderKept h
    · split
      · next h => exact joinQueue_orderKept h i
      · exact modRec_orderKept ..

theorem applyPending_orderKept (i : RosterIx) (s : State) : OrderKept s (applyPending i s) := by
  unfold applyPending
  split
  · exact .refl s
  · split
    · exact keyPress_orderKept ..
    · exact .refl s

/-! ### The Handoff Engine -/

theorem candidateDwell_orderKept (i : RosterIx) (a : AntennaId) (s : State) : OrderKept s (candidateDwell i a s) := by
  unfold candidateDwell
  split
  · exact .refl s
  · exact modRec_orderKept ..

theorem servingDwell_orderKept (i : RosterIx) (s : State) : OrderKept s (servingDwell i s) := by
  unfold servingDwell
  split
  · exact .refl s
  · exact modRec_orderKept ..

theorem removeEntry_orderKept (e : EntryNo) (i : RosterIx) (s : State) : OrderKept s (removeEntry e i s) :=
  (freeEntry_orderKept ..).trans ((modRec_orderKept ..).trans (applyPending_orderKept ..))

theorem markStarted_orderKept (e : EntryNo) (x : Entry) (p : Placement) (s : State) :
    OrderKept s (markStarted e x p s) :=
  (modEntry_orderKept s e fun _ => by rfl).trans (modRec_orderKept ..)

theorem startEntry_orderKept (e : EntryNo) (s : State) : OrderKept s (startEntry e s) := by
  unfold startEntry
  split
  · exact .refl s
  · split
    · exact freeEntry_orderKept ..
    · split
      · exact removeEntry_orderKept ..
      · split
        · exact (modRec_orderKept ..).trans (removeEntry_orderKept ..)
        · exact (takeSeat_orderKept ..).trans (markStarted_orderKept ..)

theorem depthReleaseLoop_orderKept (k : LinkId) : ∀ (n : Nat) (s : State), OrderKept s (depthReleaseLoop k n s)
  | 0, s => .refl s
  | n + 1, s => by
    unfold depthReleaseLoop
    split
    · split
      · exact .refl s
      · exact (startEntry_orderKept ..).trans (depthReleaseLoop_orderKept k n _)
    · exact .refl s

theorem depthReleaseFor_orderKept (k : Option LinkId) (s : State) : OrderKept s (depthReleaseFor k s) := by
  unfold depthReleaseFor
  split
  · exact .refl s
  · exact depthReleaseLoop_orderKept ..

theorem depthReleaseAll_orderKept (s : State) : OrderKept s (depthReleaseAll s) :=
  .foldl _ (fun s k => depthReleaseLoop_orderKept k _ s) ..

/-- The entry taken is free (R106). -/
theorem freeNumber?_free {s : State} {e : EntryNo} (h : s.freeNumber? = some e) : ∀ x ∈ s.handoffs, x.num ≠ e := by
  simpa using List.find?_some h

theorem keyAtTrigger_orderKept (i : RosterIx) (s : State) : OrderKept s (keyAtTrigger i s) := by
  unfold keyAtTrigger
  split
  · exact .refl s
  · split
    · exact (leaveQueue_orderKept ..).trans (modRec_orderKept ..)
    · exact .refl s

theorem keyAtTrigger_handoffs (i : RosterIx) (s : State) : (keyAtTrigger i s).handoffs = s.handoffs := by
  unfold keyAtTrigger
  split
  · rfl
  · split
    · rw [setKey, State.modRec_handoffs, leaveQueue, State.modAnt_handoffs]
    · rfl

theorem trigger_orderKept (i : RosterIx) (a : AntennaId) (s : State) : OrderKept s (trigger i a s) := by
  unfold trigger
  split
  · next v e _ he =>
    dsimp only
    have handed : OrderKept s ((keyAtTrigger i s).modRec i fun r => { r with state := .handing, handoff := some e }) :=
      (keyAtTrigger_orderKept ..).trans (modRec_orderKept ..)
    have entered := fun x (hx : x.num = e) => handed.trans (append_orderKept (x := x) (by
      rw [State.modRec_handoffs, keyAtTrigger_handoffs, hx]
      exact freeNumber?_free he) (((keyAtTrigger i s).modRec i fun r =>
        { r with state := .handing, handoff := some e }).seqCounter + 1))
    split
    · exact entered _ rfl
    · exact (entered _ rfl).trans (startEntry_orderKept ..)
  · exact .refl s

theorem evaluate_orderKept (w : Bool) (i : RosterIx) (s : State) : OrderKept s (evaluate w i s) := by
  unfold evaluate
  split
  · exact .refl s
  · split
    · split
      · exact .refl s
      · exact trigger_orderKept ..
    · exact .refl s

theorem endReserved_orderKept (m : SeatEnd) (x : Entry) (s : State) : OrderKept s (endReserved m x s) := by
  unfold endReserved
  split
  · split
    · exact releaseSeat_orderKept ..
    · exact .refl s
    · exact unseat_orderKept ..
  · exact .refl s

theorem abortEntry_orderKept (m : SeatEnd) (e : EntryNo) (s : State) : OrderKept s (abortEntry m e s) := by
  unfold abortEntry
  split
  · exact .refl s
  · exact (endReserved_orderKept ..).trans ((modRec_orderKept ..).trans (freeEntry_orderKept ..))

theorem returnRecord_orderKept (x : Entry) (s : State) : OrderKept s (returnRecord x s) := by
  unfold returnRecord
  split
  · exact .refl s
  · dsimp only
    split
    · exact (modRec_orderKept ..).trans ((modAnt_orderKept id).trans (applyPending_orderKept ..))
    · exact (modRec_orderKept ..).trans (applyPending_orderKept ..)

theorem abortReturn_orderKept (m : SeatEnd) (e : EntryNo) (s : State) : OrderKept s (abortReturn m e s) := by
  unfold abortReturn
  split
  · exact .refl s
  · exact (abortEntry_orderKept ..).trans (returnRecord_orderKept ..)

theorem abortAndRelease_orderKept (e : EntryNo) (s : State) : OrderKept s (abortAndRelease e s) := by
  unfold abortAndRelease
  split
  · exact .refl s
  · exact (abortReturn_orderKept ..).trans (depthReleaseFor_orderKept ..)

theorem abortHeld_orderKept (m : SeatEnd) (r : Record) (s : State) : OrderKept s (abortHeld m r s) := by
  unfold abortHeld
  split
  · exact .refl s
  · exact abortEntry_orderKept ..

theorem releaseServing_orderKept (r : Record) (s : State) : OrderKept s (releaseServing r s) := by
  unfold releaseServing
  split
  · exact .refl s
  · exact releaseSeat_orderKept ..

theorem completeEntry_orderKept (e : EntryNo) (s : State) : OrderKept s (completeEntry e s) := by
  unfold completeEntry
  split
  · exact .refl s
  · split
    · exact (releaseServing_orderKept ..).trans ((convertSeat_orderKept ..).trans ((modRec_orderKept ..).trans
        ((applyPending_orderKept ..).trans ((freeEntry_orderKept ..).trans (depthReleaseFor_orderKept ..)))))
    · exact .refl s

/-! ### The Quality Filter -/

theorem removeCandidate_orderKept (i : RosterIx) (a : AntennaId) (s : State) :
    OrderKept s (removeCandidate i a s) := by
  unfold removeCandidate
  split
  · exact .refl s
  · dsimp only
    split
    · exact modRec_orderKept ..
    · split
      · exact (modRec_orderKept ..).trans (removeEntry_orderKept ..)
      · exact modRec_orderKept ..

theorem handOn_orderKept (i : RosterIx) (a : AntennaId) (s : State) : OrderKept s (handOn i a s) := by
  unfold handOn
  split
  · exact .refl s
  · split
    · exact (candidateDwell_orderKept ..).trans (evaluate_orderKept ..)
    · exact candidateDwell_orderKept ..
    · exact modRec_orderKept ..

theorem candidateReport_orderKept (i : RosterIx) (a : AntennaId) (v : Byte) (s : State) :
    OrderKept s (candidateReport i a v s).1 := by
  unfold candidateReport
  split
  · exact .refl s
  · split
    · exact (modRec_orderKept ..).trans (handOn_orderKept ..)
    · split
      · exact (modRec_orderKept ..).trans (handOn_orderKept ..)
      · split
        · exact .refl s
        · split
          · exact (removeCandidate_orderKept ..).trans ((modRec_orderKept ..).trans (handOn_orderKept ..))
          · exact .refl s

theorem servingEvaluation_orderKept (i : RosterIx) (s : State) : OrderKept s (servingEvaluation i s) := by
  unfold servingEvaluation
  split
  · exact .refl s
  · split
    · exact evaluate_orderKept ..
    · exact .refl s

theorem servingReport_orderKept (i : RosterIx) (v : Byte) (s : State) : OrderKept s (servingReport i v s) := by
  unfold servingReport
  split
  · exact .refl s
  · have updated : OrderKept s (servingUpdate i v s) := modRec_orderKept ..
    refine .trans ?_ ((servingDwell_orderKept ..).trans (servingEvaluation_orderKept ..))
    split
    · exact updated.trans (modRec_orderKept ..)
    · split
      · split
        · exact updated.trans (abortAndRelease_orderKept ..)
        · exact updated
      · exact updated.trans (modRec_orderKept ..)

theorem readmit_orderKept (i : RosterIx) (a : AntennaId) (v : Byte) (r : Record) (s : State) :
    OrderKept s (readmit i a v r s).1 := by
  unfold readmit
  split
  · exact candidateReport_orderKept ..
  · exact (takeSeat_orderKept ..).trans ((modRec_orderKept ..).trans (applyPending_orderKept ..))

theorem applyPair_orderKept (a : AntennaId) (p : HeadsetId × Byte) (s : State) : OrderKept s (applyPair a p s).1 := by
  unfold applyPair
  split
  · exact .refl s
  · split
    · exact .refl s
    · split
      · exact .refl s
      · exact servingReport_orderKept ..
      · exact completeEntry_orderKept ..
      · exact candidateReport_orderKept ..
      · exact readmit_orderKept ..

theorem applyPairs_orderKept (a : AntennaId) : ∀ (ps : List (HeadsetId × Byte)) (s : State),
    OrderKept s (applyPairs a ps s).1
  | [], s => .refl s
  | p :: rest, s => (applyPair_orderKept a p s).trans (applyPairs_orderKept a rest _)

/-! ### The Roster -/

theorem leaveOwnQueue_orderKept (i : RosterIx) (r : Record) (s : State) : OrderKept s (leaveOwnQueue i r s) := by
  unfold leaveOwnQueue
  split
  · exact leaveQueue_orderKept ..
  · exact .refl s

theorem detachRecord_orderKept (i : RosterIx) (r : Record) (s : State) : OrderKept s (detachRecord i r s) :=
  (abortHeld_orderKept ..).trans ((leaveOwnQueue_orderKept ..).trans ((releaseServing_orderKept ..).trans
    ((setRec_orderKept ..).trans (depthReleaseFor_orderKept ..))))

theorem keyAtLoss_orderKept (i : RosterIx) (r : Record) (s : State) : OrderKept s (keyAtLoss i r s) := by
  unfold keyAtLoss
  split
  · exact (leaveOwnQueue_orderKept ..).trans (modRec_orderKept ..)
  · exact modRec_orderKept ..
  · exact .refl s
  · exact .refl s

theorem enterAdrift_orderKept (m : SeatEnd) (i : RosterIx) (s : State) : OrderKept s (enterAdrift m i s) := by
  unfold enterAdrift
  split
  · exact .refl s
  · refine .trans ?_ (modRec_orderKept ..)
    split
    · exact (keyAtLoss_orderKept ..).trans (releaseServing_orderKept ..)
    · exact keyAtLoss_orderKept ..

theorem serveLostExpiry_orderKept (i : RosterIx) (s : State) : OrderKept s (serveLostExpiry i s) := by
  unfold serveLostExpiry
  split
  · exact .refl s
  · exact (abortHeld_orderKept ..).trans ((enterAdrift_orderKept ..).trans (depthReleaseFor_orderKept ..))

theorem retainExpiry_orderKept (i : RosterIx) (s : State) : OrderKept s (retainExpiry i s) := by
  unfold retainExpiry
  split
  · exact .refl s
  · exact (abortHeld_orderKept ..).trans ((setRec_orderKept ..).trans (depthReleaseFor_orderKept ..))

theorem changeListen_orderKept (i : RosterIx) (r : Record) (c : ListenSet) (s : State) :
    OrderKept s (changeListen i r c s) := by
  unfold changeListen
  split
  · exact .refl s
  · refine .trans ?_ (modRec_orderKept ..)
    split <;> split
    · exact .refl s
    · exact setCarriage_orderKept ..
    · exact setCarriage_orderKept ..
    · exact (setCarriage_orderKept ..).trans (setCarriage_orderKept ..)

theorem evictFor_orderKept (a : AntennaId) (s : State) : OrderKept s (evictFor a s).state := by
  unfold evictFor
  split
  · exact .refl s
  · exact .refl s
  · split
    · exact .refl s
    · exact (abortHeld_orderKept ..).trans (setRec_orderKept ..)

theorem attachNew_orderKept (h : HeadsetId) (a : AntennaId) (c : Option Profile) (p : Profile) (set : ListenSet)
    (v : Byte) (s : State) : OrderKept s (attachNew h a c p set v s).state := by
  unfold attachNew
  split
  · exact .refl s
  · split
    · exact .refl s
    · dsimp only
      split
      · refine (evictFor_orderKept a s).trans (.trans ?_ (depthReleaseFor_orderKept ..))
        have seated := fun i r q x => (setRec_orderKept (evictFor a s).state i r).trans (takeSeat_orderKept a q x set _)
        split
        · exact (seated ..).trans (roomMade_orderKept ..)
        · exact seated ..
      · exact .refl s

theorem attachAdrift_orderKept (i : RosterIx) (r : Record) (a : AntennaId) (c : Option Profile) (p : Profile)
    (set : ListenSet) (v : Byte) (s : State) : OrderKept s (attachAdrift i r a c p set v s).state := by
  unfold attachAdrift
  dsimp only
  split
  · exact (abortHeld_orderKept ..).trans (depthReleaseFor_orderKept ..)
  · exact (abortHeld_orderKept ..).trans ((takeSeat_orderKept ..).trans ((modRec_orderKept ..).trans
      ((applyPending_orderKept ..).trans (depthReleaseFor_orderKept ..))))

theorem doAttach_orderKept (l : LinkId) (h : HeadsetId) (a c : Byte) (set : ListenSet) (v : Byte) (s : State) :
    OrderKept s (doAttach l h a c set v s).state := by
  unfold doAttach
  split
  · split
    · exact .refl s
    · split
      · split
        · exact .refl s
        · exact attachNew_orderKept ..
      · split
        · unfold attachSeated
          split <;> exact .refl s
        · split
          · exact .refl s
          · exact attachAdrift_orderKept ..
  · exact .refl s

/-! ### The Antenna Table -/

/-- An antenna written with an empty queue (R25, R30). -/
theorem setAnt_orderKept {s : State} {a : AntennaId} {x : Antenna} (h : x.queue = []) : OrderKept s (s.setAnt a x) :=
  modAnt_orderKept (f := fun _ => x) fun _ => by rw [h]; exact Nat.zero_le _

theorem bringUp_orderKept (l : LinkId) (a : AntennaId) (s : State) : OrderKept s (bringUp l a s) := by
  unfold bringUp
  have up : OrderKept s (s.setAnt a (Antenna.up l s.params)) := setAnt_orderKept rfl
  exact up.trans (orderKept_of_nums rfl rfl)

theorem loseMoving_orderKept (a : AntennaId) (i : RosterIx) (s : State) : OrderKept s (loseMoving a i s) := by
  unfold loseMoving
  split
  · exact .refl s
  · split
    · exact .refl s
    · split
      · exact (enterAdrift_orderKept ..).trans (modEntry_orderKept _ _ fun _ => by rfl)
      · exact .refl s

theorem loseServed_orderKept (a : AntennaId) (i : RosterIx) (s : State) : OrderKept s (loseServed a i s) := by
  unfold loseServed
  split
  · exact .refl s
  · split
    · exact (abortHeld_orderKept ..).trans (enterAdrift_orderKept ..)
    · exact .refl s

theorem abortInbound_orderKept (m : SeatEnd) (a : AntennaId) (s : State) : OrderKept s (abortInbound m a s) :=
  .foldl _ (fun s e => abortReturn_orderKept m e s) ..

theorem goDown_orderKept (a : AntennaId) (s : State) : OrderKept s (goDown a s) :=
  (abortInbound_orderKept ..).trans ((OrderKept.foldl _ (fun s i => loseMoving_orderKept a i s) ..).trans
    ((OrderKept.foldl _ (fun s i => loseServed_orderKept a i s) ..).trans (setAnt_orderKept rfl)))

theorem drainOffer_orderKept (a : AntennaId) (i : RosterIx) (s : State) : OrderKept s (drainOffer a i s) := by
  unfold drainOffer
  split
  · exact .refl s
  · split
    · exact evaluate_orderKept ..
    · exact .refl s

theorem startDrain_orderKept (a : AntennaId) (s : State) : OrderKept s (startDrain a s) :=
  (modAnt_orderKept id).trans ((abortInbound_orderKept ..).trans
    ((OrderKept.foldl _ (fun s i => drainOffer_orderKept a i s) ..).trans
      ((closureCheck_orderKept ..).trans (depthReleaseAll_orderKept ..))))

/-! ### Talk keys -/

theorem lowerReserved_orderKept (r : Record) (s : State) : OrderKept s (lowerReserved r s) := by
  unfold lowerReserved
  split
  · exact .refl s
  · split
    · exact .refl s
    · split
      · exact lowerSeat_orderKept ..
      · exact .refl s

theorem lowerServing_orderKept (r : Record) (s : State) : OrderKept s (lowerServing r s) := by
  unfold lowerServing
  split
  · exact .refl s
  · exact lowerSeat_orderKept ..

theorem releaseKey_orderKept (i : RosterIx) (r : Record) (s : State) : OrderKept s (releaseKey i r s) := by
  unfold releaseKey
  split
  · exact .refl s
  · exact (lowerServing_orderKept ..).trans ((lowerReserved_orderKept ..).trans (modRec_orderKept ..))
  · exact (leaveOwnQueue_orderKept ..).trans (modRec_orderKept ..)
  · exact modRec_orderKept ..

theorem keyOn_orderKept (i : RosterIx) (r : Record) (s : State) : OrderKept s (keyOn i r s).state := by
  unfold keyOn
  split
  · exact .refl s
  · split
    · exact keyPress_orderKept ..
    · exact modRec_orderKept ..

theorem moveEntry_orderKept (x : Entry) (s : State) : OrderKept s (moveEntry x s) :=
  (modEntry_orderKept s x.num fun _ => by rfl).trans (modRec_orderKept ..)

/-! ### Settings -/

theorem airtimeChanged_orderKept (k : Nat) (s : State) (a : AntennaId) : OrderKept s (airtimeChanged k s a) := by
  unfold airtimeChanged
  dsimp only
  split
  · exact .refl s
  · split
    · exact (setPlan_orderKept ..).trans (roomMade_orderKept ..)
    · exact setPlan_orderKept ..

theorem storeParam_orderKept {q : Param} {v : Nat} {s t : State} (h : storeParam q v s = .ok t) : OrderKept s t := by
  have written : OrderKept s { s with params := s.params.write q v } := orderKept_of_nums rfl rfl
  unfold storeParam at h
  dsimp only at h
  split at h
  · exact Except.ok.inj h ▸ .refl s
  · split at h
    · split at h
      · rw [← Except.ok.inj h]
        exact written.trans (.foldl _ (airtimeChanged_orderKept _) ..)
      · exact nomatch h
    · split at h
      · split at h
        · exact nomatch h
        · split at h <;> rw [← Except.ok.inj h]
          · exact written.trans (depthReleaseAll_orderKept _)
          · exact written
      · rw [← Except.ok.inj h]
        exact written

theorem doSet_orderKept (l : LinkId) (number : Byte) (value : BitVec 16) (s : State) :
    OrderKept s (doSet l number value s).state := by
  unfold doSet
  split
  · exact .refl s
  · unfold setParam
    split
    · exact .refl s
    · split
      · exact .refl s
      · next h => exact storeParam_orderKept h

/-! ### The expiries -/

theorem takeExpiry_orderKept (x : Expiry) (s : State) : OrderKept s (takeExpiry x s) := by
  cases x with
  | serveLost i =>
    rw [takeExpiry, takeServeLost]
    split
    · exact .refl s
    · split
      · exact serveLostExpiry_orderKept ..
      · exact setRec_orderKept ..
  | retain i =>
    rw [takeExpiry, takeRetain]
    split
    · exact .refl s
    · split
      · exact retainExpiry_orderKept ..
      · exact setRec_orderKept ..
  | candidateAge i a =>
    rw [takeExpiry, takeCandidateAge]
    split
    · exact .refl s
    · split
      · exact removeCandidate_orderKept ..
      · exact setRec_orderKept ..
  | prepare e =>
    rw [takeExpiry, takePrepare]
    split
    · exact .refl s
    · split
      · exact abortAndRelease_orderKept ..
      · exact modEntry_orderKept _ _ fun _ => by rfl
  | move e =>
    rw [takeExpiry, takeMove]
    split
    · exact .refl s
    · split
      · exact abortAndRelease_orderKept ..
      · exact modEntry_orderKept _ _ fun _ => by rfl

end Sys2Proof.Machine
end

section
/-! The order of the handoff table and of the key wait queues (R70, R106) under every request, every link and timebase
operation, and every step. -/

namespace Sys2Proof.Machine

/-! ### The requests -/

theorem withHeadset_orderKept {h : HeadsetId} {m : Status} {s : State} {act : RosterIx → Record → Answer}
    (ha : ∀ i r, OrderKept s (act i r).state) : OrderKept s (withHeadset h m s act).state := by
  unfold withHeadset
  split
  · split
    · exact .refl s
    · split
      · exact .refl s
      · exact ha ..
  · exact .refl s

theorem antennaRequest_orderKept {l : LinkId} {a : Byte} {s : State} {f g : AntennaId → Answer}
    (hf : ∀ a, OrderKept s (f a).state) (hg : ∀ a, OrderKept s (g a).state) :
    OrderKept s (antennaRequest l a s f g).state := by
  unfold antennaRequest
  split
  · exact .refl s
  · split
    · exact hf _
    · split
      · exact .refl s
      · exact hg _

theorem answerPrepare_orderKept {l : LinkId} {h : HeadsetId} {s : State} {act : Entry → State}
    (ha : ∀ x, OrderKept s (act x)) : OrderKept s (answerPrepare l h s act).state := by
  refine withHeadset_orderKept fun i r => ?_
  split
  · exact .refl s
  · split
    · exact ha _
    · exact .refl s

theorem doKey_orderKept (l : LinkId) (h : HeadsetId) (k : Byte) (s : State) : OrderKept s (doKey l h k s).state := by
  unfold doKey
  split
  · exact .refl s
  · refine withHeadset_orderKept fun i r => ?_
    split
    · exact .refl s
    · split
      · exact keyOn_orderKept ..
      · exact releaseKey_orderKept ..

theorem doArrived_orderKept (l : LinkId) (h : HeadsetId) (a : Byte) (s : State) :
    OrderKept s (doArrived l h a s).state := by
  unfold doArrived
  split
  · exact .refl s
  · refine withHeadset_orderKept fun i r => ?_
    unfold arrivedAt
    split
    · split
      · exact completeEntry_orderKept ..
      · exact .refl s
    · split
      · split <;> exact .refl s
      · exact .refl s

theorem doStay_orderKept (l : LinkId) (h : HeadsetId) (s : State) : OrderKept s (doStay l h s).state := by
  refine withHeadset_orderKept fun i r => ?_
  split
  · exact .refl s
  · split
    · split
      · exact abortAndRelease_orderKept ..
      · exact .refl s
    · exact .refl s

theorem doLevels_orderKept (l : LinkId) (a : Byte) (pairs : List (HeadsetId × Byte)) (s : State) :
    OrderKept s (doLevels l a pairs s).state := by
  unfold doLevels
  split
  · exact .refl s
  · split
    · exact .refl s
    · exact applyPairs_orderKept ..

theorem doQueryAntenna_orderKept (a : Byte) (s : State) : OrderKept s (doQueryAntenna a s).state := by
  unfold doQueryAntenna
  split <;> exact .refl s

theorem doGet_orderKept (number : Byte) (s : State) : OrderKept s (doGet number s).state := by
  unfold doGet
  split <;> exact .refl s

theorem doTrim_orderKept (l : LinkId) (v : BitVec 16) (s : State) : OrderKept s (doTrim l v s).state := by
  unfold doTrim
  split
  · exact .refl s
  · exact orderKept_of_nums rfl rfl

theorem perform_orderKept (l : LinkId) (q : Request) (s : State) : OrderKept s (perform l q s).state := by
  unfold perform
  cases q.ask with
  | antUp b =>
    refine antennaRequest_orderKept (fun a => ?_) fun _ => .refl s
    rw [antennaOk_state]
    exact bringUp_orderKept l a s
  | antDown b =>
    refine antennaRequest_orderKept (fun _ => .refl s) fun a => ?_
    rw [antennaOk_state]
    exact (goDown_orderKept a s).trans (depthReleaseAll_orderKept _)
  | antDrain b =>
    refine antennaRequest_orderKept (fun _ => .refl s) fun a => ?_
    rw [antennaOk_state]
    split
    · exact startDrain_orderKept a s
    · exact .refl s
  | antReopen b =>
    refine antennaRequest_orderKept (fun _ => .refl s) fun a => ?_
    rw [antennaOk_state]
    split
    · exact .refl s
    · exact modAnt_orderKept id
  | cardRestart => exact (OrderKept.foldl _ (fun s a => goDown_orderKept a s) ..).trans (depthReleaseAll_orderKept _)
  | attach h b c set v => exact doAttach_orderKept ..
  | detach h => exact withHeadset_orderKept fun i r => detachRecord_orderKept ..
  | levels b pairs => exact doLevels_orderKept ..
  | listen h set => exact withHeadset_orderKept fun i r => changeListen_orderKept ..
  | key h k => exact doKey_orderKept ..
  | ready h => exact answerPrepare_orderKept fun x => moveEntry_orderKept ..
  | decline h => exact answerPrepare_orderKept fun x => abortAndRelease_orderKept ..
  | arrived h b => exact doArrived_orderKept ..
  | stay h => exact doStay_orderKept ..
  | queryHeadset h => exact withHeadset_orderKept fun i r => .refl s
  | queryAntenna b => exact doQueryAntenna_orderKept ..
  | queryClock => exact .refl s
  | set p v => exact doSet_orderKept ..
  | get p => exact doGet_orderKept ..
  | trim v => exact doTrim_orderKept ..
  | clearFlags m => exact modLink_orderKept ..
  | badLength => exact .refl s
  | unknown => exact .refl s

/-! ### The card links -/

theorem executeOldest_orderKept (l : LinkId) (s : State) : OrderKept s (executeOldest l s) := by
  unfold executeOldest
  split
  · exact (modLink_orderKept ..).trans ((perform_orderKept ..).trans (modLink_orderKept ..))
  · exact .refl s

theorem submit_orderKept (l : LinkId) (q : Request) (s : State) : OrderKept s (submit l q s) := by
  unfold submit
  split
  · exact (modLink_orderKept ..).trans (executeOldest_orderKept ..)
  · exact modLink_orderKept ..

theorem beginPrepare_orderKept (l : LinkId) (x : Entry) (s : State) : OrderKept s (beginPrepare l x s) :=
  (modLink_orderKept ..).trans (modEntry_orderKept _ x.num fun _ => by rfl)

theorem beginMove_orderKept (l : LinkId) (x : Entry) (s : State) : OrderKept s (beginMove l x s) :=
  (modLink_orderKept ..).trans (modEntry_orderKept _ x.num fun _ => by rfl)

theorem beginPlan_orderKept (l : LinkId) (a : AntennaId) (s : State) : OrderKept s (beginPlan l a s) :=
  (modLink_orderKept ..).trans (modAnt_orderKept id)

theorem transmit_orderKept (l : LinkId) (s : State) : OrderKept s (transmit l s) := by
  unfold transmit
  split
  · exact .refl s
  · exact modLink_orderKept ..
  · exact beginPrepare_orderKept ..
  · exact beginMove_orderKept ..
  · exact beginPlan_orderKept ..

theorem transmitAll_orderKept (s : State) : OrderKept s (transmitAll s) :=
  .foldl _ (fun s l => transmit_orderKept l s) ..

theorem settleLoop_orderKept (due : State → List Expiry) : ∀ (n : Nat) (s : State), OrderKept s (settleLoop due n s)
  | 0, s => transmitAll_orderKept s
  | n + 1, s => by
    unfold settleLoop
    dsimp only
    split
    · exact transmitAll_orderKept s
    · refine (transmitAll_orderKept s).trans (.trans ?_ ((takeExpiry_orderKept ..).trans (settleLoop_orderKept due n _)))
      exact orderKept_of_nums rfl rfl

theorem settle_orderKept (s : State) : OrderKept s (settle s) := settleLoop_orderKept ..

theorem takeCharacter_orderKept (l : LinkId) (b : Byte) (s : State) : OrderKept s (takeCharacter l b s) := by
  unfold takeCharacter
  refine (modLink_orderKept s l fun x => { x with awaitHigh := false }).trans ?_
  dsimp only
  split
  · split
    · exact modLink_orderKept ..
    · exact .refl _
  · exact modLink_orderKept ..
  · exact modLink_orderKept ..
  · unfold takeCheck
    split
    · exact (modLink_orderKept ..).trans (submit_orderKept ..)
    · exact modLink_orderKept ..

theorem endMessage_orderKept (l : LinkId) (m : Message) (s : State) : OrderKept s (endMessage l m s) := by
  unfold endMessage
  refine (modLink_orderKept s l fun x => { x with tx := none }).trans ?_
  split
  · exact (modLink_orderKept ..).trans (executeOldest_orderKept ..)
  · exact .refl _

/-! ### The commands -/

/-- Reset leaves an empty table and empty queues (R180). -/
theorem holdReset_orderKept (s : State) : OrderKept s (holdReset s) := by
  refine ⟨fun _ => List.nodup_nil, fun a _ => ?_⟩
  rw [show (holdReset s).ant a = Antenna.down from Vector.getElem_replicate ..]
  exact Nat.zero_le _

/-- A frame boundary reaches every entry's timers and leaves its number (R140). -/
theorem countTimers_orderKept (s : State) : OrderKept s (countTimers s) :=
  orderKept_of_nums (map_num_eq fun _ => rfl) rfl

/-- A command that runs only while reset is not held keeps what its effect keeps. -/
theorem whenRunning_orderKept {s t : State} {f : State → State} (h : whenRunning s f = .next t)
    (hf : OrderKept s (f s)) : OrderKept s t := by
  unfold whenRunning at h
  cases h
  split
  · exact .refl s
  · exact hf

theorem exec_orderKept {c : Instr} {s t : State} (h : exec c s = .next t) : OrderKept s t := by
  cases hq : requestOf c with
  | some p =>
    rw [exec_of_requestOf hq] at h
    exact whenRunning_orderKept h ((settle_orderKept s).trans (submit_orderKept ..))
  | none =>
    have heard : ∀ {l b}, whenRunning s (fun s => takeCharacter l b (settle s)) = .next t → OrderKept s t :=
      fun h => whenRunning_orderKept h ((settle_orderKept s).trans (takeCharacter_orderKept ..))
    have expiry : ∀ x, whenRunning s (fun s => takeExpiry x (transmitAll s)) = .next t → OrderKept s t :=
      fun x h => whenRunning_orderKept h ((transmitAll_orderKept s).trans (takeExpiry_orderKept x _))
    cases c
    case requestReceived => exact heard h
    case malformed => exact heard h
    case goodCharacter => exact heard h
    case badCharacter =>
      rw [exec, execBadCharacter] at h
      exact whenRunning_orderKept h (modLink_orderKept ..)
    case idleTimerExpiry =>
      rw [exec, execIdleTimerExpiry] at h
      exact whenRunning_orderKept h (modLink_orderKept ..)
    case lineBreak =>
      rw [exec, execLineBreak] at h
      exact whenRunning_orderKept h ((settle_orderKept s).trans (modLink_orderKept ..))
    case replyTransmission =>
      rw [exec, execReplyTransmission] at h
      refine whenRunning_orderKept h ?_
      split
      · exact modLink_orderKept ..
      · exact .refl s
    case prepareNotice =>
      rw [exec, execPrepareNotice] at h
      refine whenRunning_orderKept h ?_
      split
      · exact beginPrepare_orderKept ..
      · exact .refl s
    case moveNotice =>
      rw [exec, execMoveNotice] at h
      refine whenRunning_orderKept h ?_
      split
      · exact beginMove_orderKept ..
      · exact .refl s
    case framePlanNotice =>
      rw [exec, execFramePlanNotice] at h
      refine whenRunning_orderKept h ?_
      split
      · exact beginPlan_orderKept ..
      · exact .refl s
    case messageSent =>
      rw [exec, execMessageSent] at h
      refine whenRunning_orderKept h ((settle_orderKept s).trans ?_)
      dsimp only
      split
      · exact .refl _
      · exact (endMessage_orderKept ..).trans (transmit_orderKept ..)
    case frameBoundary =>
      rw [exec, execFrameBoundary] at h
      have advanced : OrderKept s (advanceClock (settleAll s)) :=
        (settleLoop_orderKept ..).trans (orderKept_of_nums rfl rfl)
      exact whenRunning_orderKept h (advanced.trans (countTimers_orderKept _))
    case serveLostExpiry i => exact expiry (.serveLost i) h
    case retainExpiry i => exact expiry (.retain i) h
    case candidateAgeExpiry i a => exact expiry (.candidateAge i a) h
    case prepareTimerExpiry e => exact expiry (.prepare e) h
    case moveTimerExpiry e => exact expiry (.move e) h
    case reset =>
      cases h
      exact holdReset_orderKept s
    case resetRelease =>
      cases h
      split
      · exact orderKept_of_nums rfl rfl
      · exact .refl s
    case fsyncPulseEnd =>
      rw [exec, execFsyncPulseEnd] at h
      exact whenRunning_orderKept h (orderKept_of_nums rfl rfl)
    case setAirtimeParameter l tag p v => cases p <;> simp [requestOf] at hq
    all_goals simp [requestOf] at hq

/-- Settles O58: the front command is executed on the rest of the queue, and every command keeps the order. -/
theorem tableAndQueuesStayInOrder : Obligations.TableAndQueuesStayInOrder := by
  intro s t htable hqueues h
  have kept : OrderKept s t := by
    unfold step at h
    split at h
    · cases h
      exact .refl s
    · next c rest _ => exact exec_orderKept (s := { s with pending := rest }) h
  exact ⟨kept.tableInOrder htable, kept.queuesInOrder hqueues⟩

end Sys2Proof.Machine
end

section
/-! KEY on (R67, R68): what becomes of the press by the record's state and its key, and the place in the queue that the
reply carries. -/

namespace Sys2Proof.Machine

/-! ### The key fields of the reply (R166) -/

/-- A headset's place in a queue is one more than the number of those before it. -/
theorem placeIn_of_split {i : RosterIx} {before : List RosterIx} (h : i ∉ before) (behind : List RosterIx) :
    placeIn (before ++ i :: behind) i = before.length + 1 := by
  induction before with
  | nil => simp [placeIn]
  | cons j rest ih =>
    obtain ⟨hj, hrest⟩ := not_or.1 (mt List.mem_cons.2 h)
    simp [placeIn, Ne.symm hj, ih hrest]

/-- A key that is not WAITING is answered with its code alone (R166). -/
theorem keyFields_of_not_waiting {i : RosterIx} {s : State} {r : Record} (hr : s.rec? i = some r)
    (hk : r.key ≠ .waiting) : keyFields i s = [r.key.code, 0] := by
  unfold keyFields
  rw [hr]
  dsimp only
  split
  · next h _ => exact absurd h hk
  · rfl

/-- A WAITING key is answered with the headset's place in the queue (R166). -/
theorem keyFields_of_waiting {i : RosterIx} {s : State} {r : Record} {v : Serving} {before behind : List RosterIx}
    (hr : s.rec? i = some r) (hk : r.key = .waiting) (hv : r.serving = some v)
    (hqueue : (s.ant v.antenna).queue = before ++ i :: behind) (hi : i ∉ before) :
    keyFields i s = [2, byteOf (before.length + 1)] := by
  simp only [keyFields, hr, hk, hv, hqueue, placeIn_of_split hi, KeyState.code]

/-! ### An ON key under the room-made effects -/

/-- The record at an index is there and its key is ON. -/
def State.KeyedOn (s : State) (i : RosterIx) : Prop := ∃ r, s.rec? i = some r ∧ r.key = .on

/-- The headset re-placed has its key ON (R51). -/
theorem rePlace?_keyedOn {s t : State} {i : RosterIx} {m : Bool} (h : rePlace? s i = some (t, m)) : t.KeyedOn i := by
  obtain ⟨r, v, p, -, -, -, -, -, rfl⟩ := rePlace?_some h
  exact ⟨_, State.rec?_setRec_self .., rfl⟩

/-- A re-placement turns no key from ON. -/
theorem rePlace?_keepsOn {s t : State} {i j : RosterIx} {m : Bool} (h : rePlace? s i = some (t, m))
    (hj : s.KeyedOn j) : t.KeyedOn j := by
  by_cases hij : i = j
  · exact hij ▸ rePlace?_keyedOn h
  · obtain ⟨r, v, p, -, -, -, -, -, rfl⟩ := rePlace?_some h
    unfold State.KeyedOn
    rwa [State.rec?_setRec_ne _ _ hij, State.setPlan_rec?]

/-- A queue trial turns no key from ON (R57). -/
theorem queueTrialLoop_keepsOn {a : AntennaId} {j : RosterIx} : ∀ (n : Nat) {s : State}, s.KeyedOn j →
    (queueTrialLoop a n s).KeyedOn j
  | 0, _, hj => hj
  | n + 1, s, hj => by
    unfold queueTrialLoop
    split
    · exact hj
    · split
      · exact hj
      · next h =>
        have granted := rePlace?_keepsOn h hj
        exact queueTrialLoop_keepsOn n granted

/-- Room made turns no key from ON (R55). -/
theorem roomMade_keepsOn {a : AntennaId} {j : RosterIx} {s : State} (hj : s.KeyedOn j) : (roomMade a s).KeyedOn j := by
  obtain ⟨r, hr, hk⟩ := hj
  exact queueTrialLoop_keepsOn _ ⟨r.unblock a, by rw [clearBlocked_rec?, hr]; rfl, hk⟩

/-! ### The press (R67) -/

section
variable {s : State} {i : RosterIx} {r : Record} {v : Serving} (hr : s.rec? i = some r) (hv : r.serving = some v)
include hr hv

/-- The press is granted where the re-placement succeeds, with the room-made effects where the seat left its group. -/
theorem keyPress_of_granted {t : State} {moved : Bool} (h : rePlace? s i = some (t, moved)) :
    keyPress i s = (if moved then roomMade v.antenna t else t, .granted) := by
  simp only [keyPress, hr, Option.bind_some, hv, h]

/-- Else the headset joins the queue while that holds fewer than four. -/
theorem keyPress_of_waiting (h : rePlace? s i = none) (hroom : (s.ant v.antenna).queue.length < 4) :
    keyPress i s = ((s.modAnt v.antenna fun x => { x with queue := x.queue ++ [i] }).setRec i
      (some { r with key := .waiting }), .waiting) := by
  have join : joinQueue v.antenna i s = (s.modAnt v.antenna fun x => { x with queue := x.queue ++ [i] }).setRec i
      (some { r with key := .waiting }) :=
    State.modRec_of_some (by rwa [State.modAnt_rec?]) _
  rw [← join]
  simp only [keyPress, hr, Option.bind_some, hv, h]
  exact if_pos hroom

/-- Else the press is lost. -/
theorem keyPress_of_full (h : rePlace? s i = none) (hfull : 4 ≤ (s.ant v.antenna).queue.length) :
    keyPress i s = (setKey i .off s, .queueFull) := by
  simp only [keyPress, hr, Option.bind_some, hv, h]
  exact if_neg (not_lt.2 hfull)

end

/-! ### The request -/

/-- A KEY on from a link that may send it leaves what its answer leaves (R66). -/
theorem exec_keyOn {s t : State} {l : LinkId} {h : HeadsetId} {i : RosterIx} {r : Record} {status : Status}
    {fields : List Byte} (hq : Ready l s) (hvalid : validHeadset h = true) (hf : s.findHeadset h = some i)
    (hr : s.rec? i = some r) (hmay : mayKey l r s = true)
    (ha : keyOn i r s = { state := t, status := status, fields := fields }) (tag : Byte) :
    exec (.keyOn l tag h) s = .next (t.replied l 0x0C tag status fields) :=
  request_of_perform hq tag (.key h 0x01) 0x0C rfl ((doKey_on ..).trans
    ((withHeadset_of_known hvalid hf hr ..).trans ((if_neg (by simp [hmay])).trans ha)))

/-- Settles O27: the re-placement and the queue decide among the three answers. -/
theorem keyOnIsTriedByRePlacement : Obligations.KeyOnIsTriedByRePlacement := by
  intro s l tag h i r v hq hvalid hf hr hs hk hv ho
  have pressed : ∀ {u : State} {outcome : KeyOutcome} {fields}, keyPress i s = (u, outcome) →
      keyFields i u = fields → exec (.keyOn l tag h) s = .next (u.replied l 0x0C tag outcome.status fields) :=
    fun hp hfields => exec_keyOn hq hvalid hf hr (mayKey_of_owner (.inr ⟨v, hv, ho⟩))
      (by simp only [keyOn, hk, hs, hp, keyAnswer, hfields, ne_eq, not_true, if_false, if_true]) tag
  refine ⟨fun t moved hplace => ?granted, fun hplace hroom hi => ?waiting, fun hplace hfull => ?full⟩
  case granted =>
    have on : (if moved then roomMade v.antenna t else t).KeyedOn i := by
      split
      · exact roomMade_keepsOn (rePlace?_keyedOn hplace)
      · exact rePlace?_keyedOn hplace
    obtain ⟨q, hqr, hqk⟩ := on
    exact pressed (keyPress_of_granted hr hv hplace) (by rw [keyFields_of_not_waiting hqr (by simp [hqk]), hqk]; rfl)
  case waiting =>
    refine pressed (keyPress_of_waiting hr hv hplace hroom)
      (keyFields_of_waiting (behind := []) (State.rec?_setRec_self ..) rfl hv ?_ hi)
    rw [State.setRec_ant, State.ant_modAnt_self]
  case full =>
    have off : setKey i .off s = s := modRec_of_fixed hr (by rw [← hk])
    exact pressed (off ▸ keyPress_of_full hr hv hplace hfull) (keyFields_of_off hr hk)

/-- Settles O28: the deferred press becomes PENDING, and every other key state is answered as it stands. -/
theorem keyOnIsDeferredOrRepeated : Obligations.KeyOnIsDeferredOrRepeated := by
  intro s l tag h i r hq hvalid hf hr hmay
  have answered : ∀ {t : State} {status fields}, keyOn i r s = { state := t, status := status, fields := fields } →
      exec (.keyOn l tag h) s = .next (t.replied l 0x0C tag status fields) :=
    fun ha => exec_keyOn hq hvalid hf hr (mayKey_of_owner hmay) ha tag
  have repeated : ∀ {fields}, r.key ≠ .off → keyFields i s = fields →
      exec (.keyOn l tag h) s = .next (s.replied l 0x0C tag .ok fields) :=
    fun hk hfields => answered (by rw [keyOn, if_pos hk, keyAnswer, hfields])
  refine ⟨fun hk hs => ?deferred, fun hk => ?on, fun hk => ?pending, fun v before behind hk hv hqueue hi => ?waiting⟩
  case deferred =>
    have made : setKey i .pending s = s.setRec i (some { r with key := .pending }) := State.modRec_of_some hr _
    refine answered ?_
    rw [keyOn, if_neg (by simp [hk]), if_neg hs, keyAnswer, made,
      keyFields_of_not_waiting (State.rec?_setRec_self ..) (by simp)]
    rfl
  case on => exact repeated (by simp [hk]) (by rw [keyFields_of_not_waiting hr (by simp [hk]), hk]; rfl)
  case pending => exact repeated (by simp [hk]) (by rw [keyFields_of_not_waiting hr (by simp [hk]), hk]; rfl)
  case waiting => exact repeated (by simp [hk]) (keyFields_of_waiting hr hk hv hqueue hi)

end Sys2Proof.Machine
end

section
/-! The trigger of a handoff (R107, R108): the record and the table as it leaves them, whether the new entry waits, and
its start where it does not. -/

namespace Sys2Proof.Machine

/-! ### What the trigger reads -/

/-- The free number below which none is free is the one taken (R106). -/
theorem freeNumber?_eq_some {s : State} {e : EntryNo} (he : ∀ x ∈ s.handoffs, x.num ≠ e)
    (hlt : ∀ f, f < e → ∃ x ∈ s.handoffs, x.num = f) : s.freeNumber? = some e :=
  find?_ascending (by simpa using he) fun f hf => by simpa using hlt f hf

/-- A new entry waits at its link's depth, or behind an entry QUEUED for the link (R108). -/
theorem mustQueue_iff {s : State} {t : AntennaId} {k : LinkId} (ho : s.owner t = some k) :
    mustQueue s t = true ↔ s.params.handoffDepth ≤ s.depth k ∨
      ∃ x ∈ s.handoffs, x.phase = .queued ∧ s.owner x.target = some k := by
  simp [mustQueue, ho, queuedFor_iff]

/-- Leaving a key wait queue writes nothing but that queue. -/
theorem queueLeft_ant (s : State) (i : RosterIx) (r : Record) (a : AntennaId) :
    ∃ queue, (s.queueLeft i r).ant a = { s.ant a with queue := queue } := by
  unfold State.queueLeft
  split
  · rw [State.ant_modAnt]
    split <;> exact ⟨_, rfl⟩
  · exact ⟨_, rfl⟩

theorem queueLeft_table (s : State) (i : RosterIx) (r : Record) :
    (s.queueLeft i r).handoffs = s.handoffs ∧ (s.queueLeft i r).seqCounter = s.seqCounter := by
  unfold State.queueLeft
  split <;> exact ⟨rfl, rfl⟩

/-- Placement does not read the key wait queue (R45). -/
theorem place?_of_queue {s t : State} {a : AntennaId} (hp : t.params = s.params)
    (ha : ∃ queue, t.ant a = { s.ant a with queue := queue }) (b : Nat) : place? t a b = place? s a b := by
  obtain ⟨queue, ha⟩ := ha
  unfold place?
  rw [hp, ha]

/-! ### The state that the trigger leaves (R108) -/

/-- The entry that a trigger makes. -/
def State.newEntry (s : State) (i : RosterIx) (v : Serving) (t : AntennaId) (e : EntryNo) : Entry :=
  { num := e, headset := i, source := v.antenna, target := t, phase := .queued, reserved := none
    seq := s.seqCounter, switchFrame := none, prepTimer := none, moveTimer := none, prepareDue := false
    moveDue := false }

/-- The record at the trigger: HANDING with its entry, a WAITING key PENDING (R73). -/
def Record.handed (e : EntryNo) (r : Record) : Record :=
  { r with key := if r.key = .waiting then .pending else r.key, state := .handing, handoff := some e }

/-- The state with the entry in the table, before any start. -/
def State.triggered (s : State) (i : RosterIx) (r : Record) (v : Serving) (t : AntennaId) (e : EntryNo) : State :=
  ({ s.queueLeft i r with handoffs := s.handoffs ++ [s.newEntry i v t e], seqCounter := s.seqCounter + 1 } : State).setRec
    i (some (r.handed e))

/-- The record becomes HANDING, and a WAITING headset leaves its queue (R73). -/
theorem keyAtTrigger_handed {s : State} {i : RosterIx} {r : Record} (hr : s.rec? i = some r) (hv : r.serving ≠ none)
    (e : EntryNo) :
    (keyAtTrigger i s).modRec i (fun q => { q with state := .handing, handoff := some e }) =
      (s.queueLeft i r).setRec i (some (r.handed e)) := by
  rw [keyAtTrigger_eq hr]
  by_cases hk : r.key = .waiting
  · rw [if_pos ⟨hk, hv⟩, State.modRec_of_some (State.rec?_setRec_self ..), State.setRec_setRec, Record.handed, if_pos hk]
  · rw [if_neg fun h => hk h.1, State.modRec_of_some hr, State.queueLeft_of_idle hk, Record.handed, if_neg hk]

section
variable {s : State} {i : RosterIx} {r : Record} {v : Serving} {e : EntryNo} (hr : s.rec? i = some r)
  (hv : r.serving = some v)
include hr hv

/-- A trigger enters the handoff in the table, and starts it where it need not wait (R108). -/
theorem trigger_eq (he : s.freeNumber? = some e) (t : AntennaId) :
    trigger i t s = if mustQueue s t then s.triggered i r v t e else startEntry e (s.triggered i r v t e) := by
  obtain ⟨htable, hseq⟩ := queueLeft_table s i r
  unfold trigger
  rw [hr, Option.bind_some, hv, he]
  dsimp only
  rw [keyAtTrigger_handed hr (by simp [hv])]
  simp only [State.setRec_handoffs, State.setRec_seqCounter, htable, hseq]
  rfl

end

/-- The new entry is the one its number finds. -/
theorem triggered_entry? {s : State} {e : EntryNo} (he : ∀ x ∈ s.handoffs, x.num ≠ e) (i : RosterIx) (r : Record)
    (v : Serving) (t : AntennaId) : (s.triggered i r v t e).entry? e = some (s.newEntry i v t e) := by
  have hnone : s.handoffs.find? (fun x => x.num == e) = none := List.find?_eq_none.2 (by simpa using he)
  simp [State.triggered, State.entry?, List.find?_append, hnone, State.newEntry]

/-- The burst of a headset is not changed by the trigger (R49, R73). -/
theorem handed_currentBurst (e : EntryNo) (r : Record) : (r.handed e).currentBurst = r.currentBurst := by
  unfold Record.currentBurst Record.handed
  cases r.key <;> rfl

/-- Placement finds the antennas as they were before the trigger. -/
theorem triggered_place? (s : State) (i : RosterIx) (r : Record) (v : Serving) (t a : AntennaId) (e : EntryNo) (b : Nat) :
    place? (s.triggered i r v t e) a b = place? s a b :=
  place?_of_queue (s.queueLeft_params i r) (queueLeft_ant s i r a) b

/-- The start of the entry just made: its target being ACTIVE, it fails where the list holds no entry of the target
(R110). -/
theorem startEntry_triggered {s : State} {t : AntennaId} {e : EntryNo} (he : ∀ x ∈ s.handoffs, x.num ≠ e)
    (hact : (s.ant t).state = .active) (i : RosterIx) (r : Record) (v : Serving) :
    startEntry e (s.triggered i r v t e) =
      if hasCandidate r.candidates t = false then
        (s.triggered i r v t e).startFailed (s.newEntry i v t e) (r.handed e) false
      else match place? s t r.currentBurst with
        | none => (s.triggered i r v t e).startFailed (s.newEntry i v t e) (r.handed e) true
        | some p => (s.triggered i r v t e).started (s.newEntry i v t e) (r.handed e) p := by
  have active : ((s.triggered i r v t e).ant t).state = .active := by
    obtain ⟨queue, hq⟩ := queueLeft_ant s i r t
    exact (congrArg Antenna.state hq).trans hact
  refine (startEntry_eq (x := s.newEntry i v t e) (triggered_entry? he i r v t) (State.rec?_setRec_self ..)).trans ?_
  rw [handed_currentBurst, triggered_place?]
  exact if_congr (or_iff_right (not_not.2 active)) rfl rfl

/-- Settles O50: the entry waits as R108 says, or its start has the three outcomes of R110. -/
theorem triggeredHandoffsStartOrQueue : Obligations.TriggeredHandoffsStartOrQueue := by
  intro s i r v t k e hr hv hact ho he hlt
  have triggered := trigger_eq hr hv (freeNumber?_eq_some he hlt) t
  have waits := mustQueue_iff ho
  refine ⟨fun hwait => triggered.trans (if_pos (waits.2 hwait)), fun hd hnone => ?started⟩
  have now : ¬ mustQueue s t = true := by
    rw [waits]
    rintro (h | ⟨x, hx, hp, hxo⟩)
    · omega
    · exact hnone x hx hp hxo
  rw [if_neg now, startEntry_triggered he hact] at triggered
  refine ⟨fun ⟨c, hc, hct⟩ => ?candidate, fun hno => ?missing⟩
  case candidate =>
    rw [if_neg fun h => hasCandidate_eq_false.1 h c hc hct] at triggered
    refine ⟨fun p hp => ?_, fun hp => ?_⟩
    · rwa [show place? s t r.currentBurst = some p from hp] at triggered
    · rwa [show place? s t r.currentBurst = none from hp] at triggered
  case missing => rwa [if_pos (hasCandidate_eq_false.2 hno)] at triggered

end Sys2Proof.Machine
end

section
/-! The abort with return (R130, R131) by DECLINE, STAY and the two expiries, and the state it leaves written out. -/

namespace Sys2Proof.Machine

/-! ### The requests and the expiries -/

/-- DECLINE of a PREPARING entry by its target's owner aborts it (R117, R119). -/
theorem doDecline_of_preparing {s : State} {l : LinkId} {h : HeadsetId} {i : RosterIx} {r : Record} {x : Entry}
    (hvalid : validHeadset h = true) (hf : s.findHeadset h = some i) (hr : s.rec? i = some r)
    (hx : s.entryOf? r = some x) (hp : x.phase = .preparing) (ho : s.owner x.target = some l) :
    doDecline l h s = { state := abortAndRelease x.num s, status := .ok, fields := [] } := by
  refine (withHeadset_of_known hvalid hf hr ..).trans ?_
  simp only [hx, hp, ho, and_self, if_true]

/-- STAY of a MOVING entry by its serving antenna's owner aborts it (R125). -/
theorem doStay_of_moving {s : State} {l : LinkId} {h : HeadsetId} {i : RosterIx} {r : Record} {x : Entry} {v : Serving}
    (hvalid : validHeadset h = true) (hf : s.findHeadset h = some i) (hr : s.rec? i = some r)
    (hx : s.entryOf? r = some x) (hp : x.phase = .moving) (hs : r.state = .handing) (hv : r.serving = some v)
    (ho : s.owner v.antenna = some l) :
    doStay l h s = { state := abortAndRelease x.num s, status := .ok, fields := [] } := by
  refine (withHeadset_of_known hvalid hf hr ..).trans ?_
  simp only [hx, hp, hs, hv, Option.bind_some, ho, and_self, if_true]

section
variable {s : State} {x : Entry} {t : Timer} (hx : s.entry? x.num = some x) (hd : t.due = true)
include hx hd

theorem takePrepare_of_expiry (ht : x.prepTimer = some t) (hle : s.params.prepTime ≤ t.count + 1) :
    takePrepare x.num s = abortAndRelease x.num s := by
  simp [takePrepare, hx, ht, hd, hle]

theorem takeMove_of_expiry (ht : x.moveTimer = some t) (hle : s.params.moveTime ≤ t.count + 1) :
    takeMove x.num s = abortAndRelease x.num s := by
  simp [takeMove, hx, ht, hd, hle]

/-- A due prepare timer below its parameter counts the boundary (R140). -/
theorem takePrepare_of_raised (ht : x.prepTimer = some t) (hlt : t.count + 1 < s.params.prepTime) :
    takePrepare x.num s = s.modEntry x.num fun y => { y with prepTimer := y.prepTimer.map Timer.pass } := by
  simp [takePrepare, hx, ht, hd, not_le.2 hlt]

/-- A due move timer below its parameter counts the boundary (R140). -/
theorem takeMove_of_raised (ht : x.moveTimer = some t) (hlt : t.count + 1 < s.params.moveTime) :
    takeMove x.num s = s.modEntry x.num fun y => { y with moveTimer := y.moveTimer.map Timer.pass } := by
  simp [takeMove, hx, ht, hd, not_le.2 hlt]

end

/-- Where one entry alone has a number, its change is what it makes of that entry. -/
theorem modEntry_congr {s : State} {x : Entry} {f f' : Entry → Entry} (huniq : ∀ y ∈ s.handoffs, y.num = x.num → y = x)
    (h : f x = f' x) : s.modEntry x.num f = s.modEntry x.num f' := by
  unfold State.modEntry
  congr 1
  refine List.map_congr_left fun y hy => ?_
  by_cases hn : y.num = x.num
  · rw [if_pos hn, if_pos hn, huniq y hy hn, h]
  · rw [if_neg hn, if_neg hn]

/-! ### The state written out -/

/-- The record after an abort with return, its target's blocked flags cleared before (R55, R130). -/
theorem returned_eq {x : Entry} (hp : x.phase ≠ .queued) (r : Record) :
    { (r.unblock x.target).unlinked x with state := .settled, serveLost := some Timer.start } =
      r.returned x.target := by
  simp only [Record.unlinked, Record.unblock, Record.returned, List.map_map, if_neg hp]
  congr 1
  refine List.map_congr_left fun c _ => ?_
  by_cases hc : c.antenna = x.target <;> simp [hc]

/-- Where nothing waits at the target, tearing down a started entry vacates its reserved seat and writes the headset's
record (R53, R130). -/
theorem torn_of_empty {s : State} {x : Entry} {r : Record} {g : GroupIx} {n : SeatNo} (hr : s.rec? x.headset = some r)
    (hg : x.reserved = some (g, n)) (hempty : (s.ant x.target).queue = []) :
    s.torn x false =
      ({ clearBlocked x.target (s.modAnt x.target (Antenna.vacated s.params g n r.listen)) with
        handoffs := s.handoffs.filter fun y => y.num != x.num } : State).setRec x.headset
          (some ((r.unblock x.target).unlinked x)) := by
  have unblocked : (clearBlocked x.target (s.modAnt x.target (Antenna.vacated s.params g n r.listen))).rec? x.headset =
      some (r.unblock x.target) := by
    rw [clearBlocked_rec?, State.modAnt_rec?, hr, Option.map_some]
  unfold State.torn
  simp only [hg, hr, Bool.false_eq_true, if_false, State.seatReleased_of_empty hempty]
  exact State.modRec_of_some (by exact unblocked) _

/-- Where nothing waits at the target, the abort with return leaves the state that `State.aborted` writes out, and a
PENDING key applied to it (R74, R130, R131). -/
theorem recalled_of_empty {s : State} {x : Entry} {r : Record} {v : Serving} {g : GroupIx} {n : SeatNo}
    (hp : x.phase ≠ .queued) (hr : s.rec? x.headset = some r) (hg : x.reserved = some (g, n))
    (hv : r.serving = some v) (hempty : (s.ant x.target).queue = []) :
    s.recalled x false = (s.aborted x x.headset r v g n).keyApplied x.headset := by
  have served : ((s.torn x false).rec? x.headset).bind Record.serving = some v := by
    rw [torn_of_empty hr hg hempty, State.rec?_setRec_self]
    exact hv
  unfold State.recalled
  dsimp only
  rw [served, torn_of_empty hr hg hempty]
  dsimp only
  rw [State.modRec_of_some (State.rec?_setRec_self ..), State.setRec_setRec, returned_eq hp]
  unfold State.aborted
  dsimp only
  by_cases hm : x.phase = .moving
  · rw [if_pos hm, if_pos hm]
    rfl
  · rw [if_neg hm, if_neg hm]

/-- Settles O6: each row reaches the abort with return, or passes its boundary; the abort is then written out. -/
theorem abortsReturnTheHeadset : Obligations.AbortsReturnTheHeadset := by
  refine ⟨fun s x r l tag h hx hr hh => ?rows, ?written, ?passes⟩
  case rows =>
    have he : s.entryOf? r = some x := entryOf?_of_some hh hx
    have abort : x.phase ≠ .queued → abortAndRelease x.num s = depthReleaseFor (s.owner x.target) (s.recalled x false) :=
      abortAndRelease_eq hx
    refine ⟨fun hq hvalid hf hp ho => ?decline, fun v hq hvalid hf hp hs hv ho => ?stay,
      fun t hrun htx hp ht hd hle => ?prepare, fun t hrun htx hp ht hd hle => ?move⟩
    case decline =>
      have run := request_of_perform hq tag (.decline h) 0x11 rfl (doDecline_of_preparing hvalid hf hr he hp ho)
      rwa [abort (by simp [hp]), ho] at run
    case stay =>
      have run := request_of_perform hq tag (.stay h) 0x13 rfl (doStay_of_moving hvalid hf hr he hp hs hv ho)
      rwa [abort (by simp [hp])] at run
    case prepare =>
      rw [← abort (by simp [hp]), ← takePrepare_of_expiry hx hd ht hle]
      exact whenRunning_transmitAll hrun htx (takePrepare x.num)
    case move =>
      rw [← abort (by simp [hp]), ← takeMove_of_expiry hx hd ht hle]
      exact whenRunning_transmitAll hrun htx (takeMove x.num)
  case written =>
    rintro s x _ r v g n hp rfl hr hg hv - hempty
    exact recalled_of_empty hp hr hg hv hempty
  case passes =>
    intro s x t hrun htx hx huniq hd
    refine ⟨fun ht hlt => ?_, fun ht hlt => ?_⟩
    · refine (whenRunning_transmitAll hrun htx (takePrepare x.num)).trans (congrArg _ ?_)
      rw [takePrepare_of_raised hx hd ht hlt]
      exact modEntry_congr huniq (by rw [ht, Option.map_some, Timer.pass_of_due hd])
    · refine (whenRunning_transmitAll hrun htx (takeMove x.num)).trans (congrArg _ ?_)
      rw [takeMove_of_raised hx hd ht hlt]
      exact modEntry_congr huniq (by rw [ht, Option.map_some, Timer.pass_of_due hd])

end Sys2Proof.Machine
end

section
/-! The reply of a request (R150, R151, R159): one for every request executed, its common part, and the bodies that are
answered before any check of their kind (R160). -/

namespace Sys2Proof.Machine

/-! ### Reading a body (R160) -/

/-- A kind byte that names no request kind, in a body of two bytes (R160). -/
theorem Ask.ofFields_of_foreign {kind : Byte} (hk : kind ∉ requestKinds) : Ask.ofFields kind [] = .unknown := by
  revert kind
  decide +kernel

/-- The fields of a KEY body (R161). -/
theorem Ask.ofFields_key (h : HeadsetId) (key : Byte) :
    Ask.ofFields 0x0C (bytes24 h ++ [key]) =
      .key (word24 (h.extractLsb' 16 8) (h.extractLsb' 8 8) (h.extractLsb' 0 8)) key := rfl

/-- A body is misfit where its length is not the one its kind requires, or where it is a KEY with a key field other than
0 and 1 (R66, R160). -/
def Misfit (kind tag : Byte) (fields : List Byte) : Prop :=
  lengthFits (kind :: tag :: fields) = false ∨
    kind = 0x0C ∧ ∃ h : HeadsetId, ∃ key : Byte, fields = bytes24 h ++ [key] ∧ key ≠ 0x00 ∧ key ≠ 0x01

/-- A misfit body of a known kind changes nothing and is BAD FIELD, LEVELS with its two counts (R160, R163). -/
theorem perform_of_misfit {kind tag : Byte} {fields : List Byte} (hk : kind ∈ requestKinds)
    (h : Misfit kind tag fields) (l : LinkId) (s : State) :
    perform l (Request.ofBody (kind :: tag :: fields)) s =
        { state := s, status := .badField, fields := badLengthFields kind } ∧
      (Request.ofBody (kind :: tag :: fields)).ask ≠ .unknown := by
  rcases h with hlen | ⟨rfl, id, key, rfl, h0, h1⟩
  · have hask : (Request.ofBody (kind :: tag :: fields)).ask = .badLength := Ask.ofFields_of_misfit hk hlen
    refine ⟨?_, fun hu => nomatch hask.symm.trans hu⟩
    unfold perform
    rw [hask]
    rfl
  · have hask : (Request.ofBody (0x0C :: tag :: (bytes24 id ++ [key]))).ask = _ := Ask.ofFields_key id key
    refine ⟨?_, fun hu => nomatch hask.symm.trans hu⟩
    unfold perform
    rw [hask]
    exact if_pos ⟨h0, h1⟩

/-! ### The reply (R151) -/

/-- A request row on a ready link executes its request (R149, R150). -/
theorem exec_of_ready {c : Instr} {l : LinkId} {q : Request} {s : State} (hs : Ready l s)
    (hq : requestOf c = some (l, q)) : exec c s = .next (execute l q s) := by
  obtain ⟨hrun, hquiet, hslots, hreply⟩ := hs
  rw [exec_of_requestOf hq, whenRunning_of hrun, settle_of_quiet hquiet, submit_of_free hslots hreply]

/-- The one reply that an executed request leaves, and what it leaves of its link besides (R150, R151, R159). -/
theorem execute_leaves_reply (l : LinkId) (q : Request) (s : State) :
    ∃ (status : Status) (fields : List Byte),
      ((execute l q s).link l).reply = some ([if q.ask = .unknown then 0xFF else q.kind + 0x80, q.tag, status.code,
        ((execute l q s).link l).flagsByte] ++ bytes16 s.frameNumber ++ fields) ∧
      ((execute l q s).link l).slots = (s.link l).slots ∧ ((execute l q s).link l).asm = (s.link l).asm ∧
      ((execute l q s).link l).tx = (s.link l).tx := by
  obtain ⟨hslots, hasm, htx, hframe⟩ := perform_keep l l q s
  refine ⟨(perform l q s).status, (perform l q s).fields, ?_⟩
  simp only [execute, State.link_modLink_self, replyBody, hframe]
  exact ⟨rfl, hslots, hasm, htx⟩

/-- A request of unknown kind is answered with the common part alone (R160). -/
theorem execute_of_unknown {q : Request} (hq : q.ask = .unknown) (l : LinkId) (s : State) :
    execute l q s = s.modLink l fun x =>
      { x with reply := some ([0xFF, q.tag, 0x10, x.flagsByte] ++ bytes16 s.frameNumber) } := by
  have hp : perform l q s = .refuse s .unknownKind := by
    unfold perform
    rw [hq]
  unfold execute
  rw [hp]
  simp only [replyBody, Request.replyKind, hq, if_true, Answer.refuse, List.append_nil]
  rfl

/-! ### The end of a message (R148, R149) -/

/-- The check byte that makes the sum 0 ends the message on a ready link, and its request is executed (R148, R150). -/
theorem exec_requestReceived {s : State} {l : LinkId} {b sum : Byte} {bytes : List Byte} (hs : Ready l s)
    (hasm : (s.link l).asm = .check bytes sum) (hsum : sum + b = 0) :
    exec (.requestReceived l b) s = .next
      (execute l (Request.ofBody bytes) (s.modLink l fun x => { x with awaitHigh := false, asm := .hunt })) := by
  obtain ⟨hrun, hquiet, hslots, hreply⟩ := hs
  rw [exec, execRequestReceived, whenRunning_of hrun, settle_of_quiet hquiet, takeCharacter]
  simp only [State.link_modLink_self, hasm, takeCheck, hsum, if_true, State.modLink_modLink, Link.toHunt]
  rw [submit_of_free (by rw [State.link_modLink_self]; exact hslots) (by rw [State.link_modLink_self]; exact hreply)]
  rfl

/-- Settles O36: every request that is executed leaves the reply of its answer; the rest says which answer. -/
theorem everyRequestGetsOneReply : Obligations.EveryRequestGetsOneReply := by
  refine ⟨fun status => ?codes, fun c l q s hs hq => ?reply, fun s l kind tag hs hk => ?unknown,
    fun s l kind tag fields hk hmisfit => ?misfit⟩
  case codes => cases status <;> rfl
  case reply =>
    have ⟨_, _, hslots, _⟩ := hs
    obtain ⟨status, fields, hreply, hkeep, hasm, htx⟩ := execute_leaves_reply l q s
    exact ⟨_, status, fields, exec_of_ready hs hq, hreply, hkeep.trans hslots, hasm, htx⟩
  case unknown =>
    rw [exec_of_ready hs rfl]
    exact congrArg _ (execute_of_unknown (Ask.ofFields_of_foreign hk) l s)
  case misfit =>
    have answered := fun u => perform_of_misfit hk hmisfit l u
    have executed : ∀ u, execute l (Request.ofBody (kind :: tag :: fields)) u =
        u.replied l kind tag .badField (badLengthFields kind) :=
      fun u => execute_of_perform (answered u).1 (answered u).2
    refine ⟨executed s, fun b sum hs hasm hsum => ?_⟩
    rw [exec_requestReceived hs hasm hsum, executed]
    rfl

end Sys2Proof.Machine
end

section
/-! Candidate reports (R89 to R92): the entry that a report updates, inserts or displaces, its place in the list, and its
dwell. -/

namespace Sys2Proof.Machine

/-! ### The list (R88) -/

/-- An entry placed among others keeps its place under a change that leaves its F16. -/
theorem mapCandidate_place {c : Candidate} {f : Candidate → Candidate} (hf : (f c).f16 = c.f16) {rest : List Candidate}
    (hrest : ∀ d ∈ rest, d.antenna ≠ c.antenna) :
    mapCandidate (placeCandidate c rest) c.antenna f = placeCandidate (f c) rest := by
  have kept : ∀ {l : List Candidate}, (∀ d ∈ l, d.antenna ≠ c.antenna) → mapCandidate l c.antenna f = l := fun hl =>
    (List.map_congr_left fun d hd => if_neg (hl d hd)).trans (List.map_id _)
  induction rest with
  | nil => simp [placeCandidate, mapCandidate]
  | cons d rest ih =>
    obtain ⟨hd, hrest'⟩ := List.forall_mem_cons.1 hrest
    unfold placeCandidate
    rw [hf]
    split
    · rw [mapCandidate, List.map_cons, if_neg hd]
      exact congrArg _ (ih hrest')
    · rw [mapCandidate, List.map_cons, if_pos rfl]
      exact congrArg _ (kept hrest)

/-! ### The dwell step (R99 to R101) -/

/-- A candidate entry qualifies where its level suits the record's terms (R99, R100). -/
theorem qualifies_eq (s : State) (r : Record) (c : Candidate) :
    qualifies s r c = levelSuits s.params (s.underDrain r) r.weak r.f16s c.f16 := by
  have drain : servedDraining s r = s.underDrain r := by
    unfold servedDraining State.underDrain
    cases r.serving with
    | none => rfl
    | some v => rfl
  unfold qualifies termsOf levelSuits
  rw [drain]
  cases s.underDrain r with
  | true => rfl
  | false =>
    cases r.weak with
    | true => simp [levelTest]
    | false => rfl

/-- The entry after its dwell step, in the list of record r (R101, R89). -/
def State.counted (s : State) (r : Record) (c : Candidate) : Candidate :=
  { c with
    dwell := if r.state ≠ .adrift ∧ c.blocked = false ∧
        levelSuits s.params (s.underDrain r) r.weak r.f16s c.f16 = true
      then min 255 (c.dwell + 1) else 0 }

section
variable {s : State} {i : RosterIx} {r : Record} {c : Candidate} {rest : List Candidate} (hr : s.rec? i = some r)
  (hl : r.candidates = placeCandidate c rest) (hrest : ∀ d ∈ rest, d.antenna ≠ c.antenna)
include hr hl hrest

/-- A change of the placed entry that leaves its F16. -/
theorem modCandidate_placed {f : Candidate → Candidate} (hf : (f c).f16 = c.f16) :
    modCandidate i c.antenna f s = s.setRec i (some { r with candidates := placeCandidate (f c) rest }) := by
  rw [modCandidate, State.modRec_of_some hr, hl, mapCandidate_place hf hrest]

/-- The dwell step of a placed entry that is not the target candidate (R101). -/
theorem candidateDwell_placed (ht : s.targetOf? r ≠ some c.antenna) (hs : r.state ≠ .adrift) :
    candidateDwell i c.antenna s = s.setRec i (some { r with candidates := placeCandidate (s.counted r c) rest }) := by
  unfold candidateDwell
  simp only [hr]
  rw [modCandidate_placed hr hl hrest]
  · rw [if_neg ht, qualifies_eq, State.counted]
    cases hb : c.blocked with
    | true => simp
    | false =>
      cases levelSuits s.params (s.underDrain r) r.weak r.f16s c.f16 <;> simp [hs]
  · split_ifs <;> rfl

/-- The report is handed on by the record's state: the entry's dwell is stepped, and a SETTLED record evaluated (R89). -/
theorem handOn_placed (ht : s.targetOf? r ≠ some c.antenna) {t : State}
    (hu : s.setRec i (some { r with candidates := placeCandidate (s.counted r c) rest }) = t) :
    handOn i c.antenna s = if r.state = .settled then evaluate false i t else t := by
  have stepped : r.state ≠ .adrift → candidateDwell i c.antenna s = t := fun hs =>
    (candidateDwell_placed hr hl hrest ht hs).trans hu
  have cleared : r.state = .adrift → modCandidate i c.antenna (fun d => { d with dwell := 0 }) s = t := fun hs => by
    rw [modCandidate_placed (c := c) hr hl hrest (by rfl), ← hu]
    simp [State.counted, hs]
  unfold handOn
  simp only [hr]
  cases hs : r.state with
  | settled => simp [stepped, hs]
  | handing => simp [stepped, hs]
  | adrift => simp [cleared, hs]

end

/-- The same of a record just written with the placed entry. -/
theorem handOn_setRec {s : State} {i : RosterIx} {r : Record} {c : Candidate} {rest : List Candidate}
    (hrest : ∀ d ∈ rest, d.antenna ≠ c.antenna) (ht : s.targetOf? r ≠ some c.antenna) {t : State}
    (hu : s.setRec i (some { r with candidates := placeCandidate (s.counted r c) rest }) = t) :
    handOn i c.antenna (s.setRec i (some { r with candidates := placeCandidate c rest })) =
      if r.state = .settled then evaluate false i t else t :=
  handOn_placed (r := { r with candidates := placeCandidate c rest }) (State.rec?_setRec_self ..) rfl hrest ht
    ((State.setRec_setRec ..).trans hu)

/-! ### The report (R90, R91) -/

section
variable {s : State} {i : RosterIx} {r : Record} {a : AntennaId} (hr : s.rec? i = some r)
include hr

/-- A report of a listed entry filters it and places it again (R90). -/
theorem candidateReport_of_listed {c : Candidate} (hc : r.candidates.find? (fun d => d.antenna == a) = some c)
    (level : Byte) :
    candidateReport i a level s =
      (handOn i a (s.setRec i (some { r with
        candidates := placeCandidate { c with f16 := filterUpdate s.params.filterWeight c.f16 level
                                              age := some Timer.start } (dropCandidate r.candidates c.antenna) })),
        true) := by
  unfold candidateReport
  simp only [hr, hc, updateCandidate, State.modRec_of_some hr]

variable (hnew : ∀ c ∈ r.candidates, c.antenna ≠ a)
include hnew

/-- A report from an unlisted antenna while the list has room (R90). -/
theorem candidateReport_of_room (hlen : r.candidates.length < 3) (level : Byte) :
    candidateReport i a level s =
      (handOn i a (s.setRec i (some { r with candidates := placeCandidate (newCandidate a level) r.candidates })),
        true) := by
  have hnone : r.candidates.find? (fun d => d.antenna == a) = none := List.find?_eq_none.2 (by simpa using hnew)
  unfold candidateReport
  simp only [hr, hnone, insertCandidate, State.modRec_of_some hr]
  exact if_pos hlen

/-- A report from an unlisted antenna while the list is full: the weakest removable entry leaves it for a greater seed
(R91). -/
theorem candidateReport_of_full (hlen : 3 ≤ r.candidates.length) {w : Candidate}
    (hw : weakestRemovable s r = some w) (level : Byte) :
    candidateReport i a level s =
      if w.f16 < level.toNat * 16 then
        (handOn i a (insertCandidate i (newCandidate a level) (removeCandidate i w.antenna s)), true)
      else (s, false) := by
  have hnone : r.candidates.find? (fun d => d.antenna == a) = none := List.find?_eq_none.2 (by simpa using hnew)
  unfold candidateReport
  simp only [hr, hnone, hw]
  exact if_neg (not_lt.2 hlen)

end

/-- The last entry that is not the target candidate is the weakest removable one (R91). -/
theorem weakestRemovable_of_split {s : State} {r : Record} {before behind : List Candidate} {w : Candidate}
    (hl : r.candidates = before ++ w :: behind) (hw : s.heldTarget r ≠ some w.antenna)
    (hbehind : ∀ d ∈ behind, s.heldTarget r = some d.antenna) : weakestRemovable s r = some w := by
  have passed : behind.reverse.find? (fun c => s.targetOf? r != some c.antenna) = none :=
    List.find?_eq_none.2 fun d hd => by simpa [targetOf?_eq] using hbehind d (List.mem_reverse.1 hd)
  unfold weakestRemovable
  rw [hl, List.reverse_append, List.reverse_cons, List.append_assoc, List.find?_append, passed]
  simp [targetOf?_eq, hw]

/-! ### The request (R79, R80) -/

/-- A LEVELS request of one pair that is skipped (R79, R163). -/
theorem doLevels_one_skipped {l : LinkId} {h : HeadsetId} {a : AntennaId} {level : Byte} {s t : State}
    (hv : validHeadset h = true) (ho : s.owner a = some l) (ht : applyPair a (h, level) s = (t, false)) :
    doLevels l (byteOf a.val) [(h, level)] s = { state := t, status := .ok, fields := [0, 1] } := by
  have hfields : levelsFields (byteOf a.val) [(h, level)] = some a := by
    simp [levelsFields, Config.maxPairs, hv, antennaOf?_byteOf]
  simp only [doLevels, hfields, ho, applyPairs, ht, ne_eq, not_true_eq_false, if_false]
  rfl

/-- A pair from an ACTIVE antenna that neither serves the headset nor is its target is a candidate report, unless it
re-admits the headset (R80, rows 6 to 9; R16). -/
theorem applyPair_of_candidate {s : State} {h : HeadsetId} {level : Byte} {a : AntennaId} {i : RosterIx} {r : Record}
    (hf : s.findHeadset h = some i) (hr : s.rec? i = some r) (hact : (s.ant a).state = .active)
    (hv : ∀ v, r.serving = some v → v.antenna ≠ a) (ht : s.heldTarget r ≠ some a)
    (hlost : r.state = .adrift → s.entryOf? r ≠ none ∨ level.toNat < s.params.lossLevel ∨
      place? s a r.profile.listenBurst = none) :
    applyPair a (h, level) s = candidateReport i a level s := by
  have unserved : ¬ (r.state ≠ .adrift ∧ r.serving.map Serving.antenna = some a) := by
    rintro ⟨-, hs⟩
    obtain ⟨v, hsv, hat⟩ := Option.map_eq_some_iff.1 hs
    exact hv v hsv hat
  have unstarted : startedToward s r a = none := by
    unfold startedToward
    cases hx : s.entryOf? r with
    | none => rfl
    | some x => exact if_neg fun ⟨hp, hta⟩ => ht (by simp [State.heldTarget, hx, hp, hta])
  unfold applyPair
  simp only [hf, hr]
  rw [classify, if_neg unserved, unstarted]
  dsimp only
  rw [if_neg (by simp [hact])]
  by_cases hs : r.state = .adrift
  · rw [if_neg (not_not.2 hs)]
    cases hx : s.entryOf? r with
    | some x => rfl
    | none =>
      rw [if_neg (by simp)]
      cases hl : reachesLoss s.params level with
      | false => rfl
      | true =>
        have hfull : place? s a r.profile.listenBurst = none := by
          rcases hlost hs with he | hlow | hp
          · exact absurd hx he
          · simp only [reachesLoss, decide_eq_true_eq] at hl
            omega
          · exact hp
        simp only [if_true, readmit, hfull]
  · rw [if_pos hs]

/-! ### The QUEUED handoff that goes with its entry (R92) -/

/-- A key applied keeps the parameters. -/
theorem keyApplied_params {s : State} {i : RosterIx} {r : Record} (hr : s.rec? i = some r) (hs : r.state = .settled) :
    (s.keyApplied i).params = s.params := by
  rw [← applyPending_eq hr hs]
  exact (applyPending_rest i s).params

/-- Records of one face, in states of one set of antennas, are judged under the same terms and levels (R99, R101). -/
theorem counted_of_kept {s t : State} (h : Kept s t) (hp : t.params = s.params) {q r : Record} (hf : q.face = r.face)
    (c : Candidate) : t.counted q c = s.counted r c := by
  obtain ⟨hstate, hf16, hweak, -, -, -, -, -, hserving⟩ := face_fields hf
  have drain : t.underDrain q = s.underDrain r := by
    unfold State.underDrain
    cases hq : q.serving with
    | none =>
      rw [hq, Option.map_none, eq_comm, Option.map_eq_none_iff] at hserving
      rw [hserving]
    | some v =>
      rw [hq, Option.map_some, eq_comm, Option.map_eq_some_iff] at hserving
      obtain ⟨w, hw, hwv⟩ := hserving
      simp only [hw, (h.2.1 v.antenna).1, hwv]
  simp only [State.counted, hstate, hf16, hweak, drain, hp]

/-- Records of one face name the same antennas in their lists. -/
theorem antennas_of_face {q r : Record} (h : q.face = r.face) :
    q.candidates.map Candidate.antenna = r.candidates.map Candidate.antenna := by
  have hlist : q.candidates.map (fun d => { d with blocked := false }) =
      r.candidates.map fun d => { d with blocked := false } :=
    congrArg Record.candidates (a₁ := q.face) (a₂ := r.face) h
  simpa [Function.comp_def] using congrArg (List.map Candidate.antenna) hlist

/-- For a record that is not ADRIFT the dwell step is the level test of its terms (R101). -/
theorem counted_of_seated {s : State} {r : Record} (hs : r.state ≠ .adrift) (c : Candidate) :
    s.counted r c =
      { c with
        dwell := if c.blocked = false ∧ levelSuits s.params (s.underDrain r) r.weak r.f16s c.f16 = true
          then min 255 (c.dwell + 1) else 0 } := by
  simp [State.counted, hs]

/-- A new entry inserted in the list of a SETTLED record without a handoff, after a key applied: its dwell is stepped as
before the key, and the record evaluated (R74, R89, R92). -/
theorem handOn_insert_of_kept {s t : State} {i : RosterIx} {r : Record} {c : Candidate} (h : Kept s t)
    (hp : t.params = s.params) (hr : s.rec? i = some r) (hs : r.state = .settled) (hh : r.handoff = none)
    (hnew : ∀ d ∈ r.candidates, d.antenna ≠ c.antenna) :
    handOn i c.antenna (insertCandidate i c t) =
      evaluate false i (t.modRec i fun q => { q with candidates := placeCandidate (s.counted r c) q.candidates }) := by
  obtain ⟨q, hq, hface⟩ := h.forth hr
  obtain ⟨hstate, -, -, hnone, -⟩ := face_fields hface
  have others : ∀ d ∈ q.candidates, d.antenna ≠ c.antenna := fun d hd => by
    have named : d.antenna ∈ r.candidates.map Candidate.antenna := antennas_of_face hface ▸ List.mem_map_of_mem hd
    obtain ⟨d', hd', heq⟩ := List.mem_map.1 named
    exact heq ▸ hnew d' hd'
  have untargeted : t.targetOf? q ≠ some c.antenna := by
    simp [State.targetOf?, entryOf?_of_none (hnone.trans hh)]
  rw [insertCandidate, State.modRec_of_some hq, State.modRec_of_some hq, handOn_setRec others untargeted rfl,
    if_pos (hstate.trans hs), counted_of_kept h hp hface]

/-- Settles O11: the report updates, inserts or displaces, and what it leaves is handed on by the record's state. -/
theorem candidateReportsInsertAnEntry : Obligations.CandidateReportsInsertAnEntry := by
  intro s l tag h level a i r hq hvalid hf hr ho hact hv ht hlost counted fresh result report
  have pair := applyPair_of_candidate hf hr hact hv ht hlost
  have reported : ∀ {t}, candidateReport i a level s = (t, true) →
      exec report s = .next (t.replied l 0x0A tag .ok [1, 0]) := fun hc =>
    request_of_perform hq tag (.levels (byteOf a.val) [(h, level)]) 0x0A rfl (doLevels_one hvalid ho (pair.trans hc))
  have handed : ∀ {c rest}, c.antenna = a → (∀ d ∈ rest, d.antenna ≠ a) →
      candidateReport i a level s = (handOn i a (s.setRec i (some { r with candidates := placeCandidate c rest })), true) →
      exec report s = .next (result (placeCandidate (counted c) rest)) := by
    rintro c rest rfl hrest hc
    rw [reported hc, handOn_setRec hrest ht rfl]
    rfl
  refine ⟨fun c hc => ?listed, fun hnew => ⟨fun hlen => ?room, fun before w behind hlen hl hw hbehind => ?full⟩⟩
  case listed =>
    obtain rfl : c.antenna = a := by simpa using List.find?_some hc
    exact handed rfl (fun d hd => by simpa using (List.mem_filter.1 hd).2) (candidateReport_of_listed hr hc level)
  case room => exact handed rfl hnew (candidateReport_of_room hr hnew hlen level)
  case full =>
    intro rest
    have full := candidateReport_of_full hr hnew hlen (weakestRemovable_of_split hl hw hbehind) level
    have hrest : ∀ d ∈ rest, d.antenna ≠ a := fun d hd => hnew d (List.mem_filter.1 hd).1
    refine ⟨fun hle => ?skipped, fun hlt hfree => ?displaced, fun x hlt hs hh he hi hp hta => ?queued⟩
    case skipped =>
      exact request_of_perform hq tag (.levels (byteOf a.val) [(h, level)]) 0x0A rfl
        (doLevels_one_skipped hvalid ho (pair.trans (full.trans (if_neg (not_lt.2 hle)))))
    case displaced =>
      refine handed rfl hrest (full.trans ((if_pos hlt).trans ?_))
      rw [removeCandidate_of_free hr hfree, insertCandidate, State.modRec_of_some (State.rec?_setRec_self ..),
        State.setRec_setRec]
      rfl
    case queued =>
      intro t
      have gone : removeCandidate i w.antenna s = t := by rw [← hta, removeCandidate_of_queued hr he hh hi hp, hta]; rfl
      have inserted := handOn_insert_of_kept (t := t) (c := newCandidate a level)
        (r := { r with candidates := rest, state := .settled, handoff := none }) (keyApplied_kept i _)
        (keyApplied_params (State.rec?_setRec_self ..) rfl) (State.rec?_setRec_self ..) rfl rfl hrest
      rw [counted_of_seated (by simp)] at inserted
      have stepped : fresh = _ := counted_of_seated (s := s) (r := r) (by simp [hs]) (newCandidate a level)
      rw [reported (full.trans (if_pos hlt)), gone, stepped]
      exact congrArg (fun u : State => Host.Outcome.next (u.replied l 0x0A tag .ok [1, 0])) inserted

end Sys2Proof.Machine
end

section
/-! The level filter, the WEAK table (R81, R84) and the place of an entry in the candidate list (R87, R88). -/

namespace Sys2Proof.Machine

/-! ### The level filter (R81) and WEAK (R84) -/

/-- A sixteenth of a difference weighed by 0 to 16, rounded, lies between 0 and the difference (R81). -/
theorem filterStep_range (e : Int) {w : Nat} (hw : w ≤ 16) :
    min 0 e ≤ (e * w + 8) / 16 ∧ (e * w + 8) / 16 ≤ max 0 e := by
  have hw' : (w : Int) ≤ 16 := Int.ofNat_le.2 hw
  rcases le_total 0 e with he | he
  · have lower : 0 ≤ e * w := mul_nonneg he (Int.natCast_nonneg w)
    have upper : e * w ≤ e * 16 := mul_le_mul_of_nonneg_left hw' he
    omega
  · have lower : e * 16 ≤ e * w := mul_le_mul_of_nonpos_left hw' he
    have upper : e * w ≤ 0 := mul_nonpos_of_nonpos_of_nonneg he (Int.natCast_nonneg w)
    omega

/-- The filter's value as an integer: the subtraction from F16 never passes 0 (R81). -/
theorem filterUpdate_cast {w : Nat} (hw : w ≤ 16) (f : Nat) (level : Byte) :
    (filterUpdate w f level : Int) = f + (((level.toNat * 16 : Int) - f) * w + 8) / 16 := by
  have := filterStep_range ((level.toNat * 16 : Int) - f) hw
  exact Int.toNat_of_nonneg (by omega)

/-- The filter moves F16 toward the target and not past it (R81). -/
theorem filterUpdate_between {w : Nat} (hw : w ≤ 16) (f : Nat) (level : Byte) :
    min f (level.toNat * 16) ≤ filterUpdate w f level ∧ filterUpdate w f level ≤ max f (level.toNat * 16) := by
  have := filterStep_range ((level.toNat * 16 : Int) - f) hw
  have := filterUpdate_cast hw f level
  omega

theorem seedOf_le (level : Byte) : seedOf level ≤ 4080 := by
  have := level.isLt
  unfold seedOf
  omega

theorem filterUpdate_le {w f : Nat} (hw : w ≤ 16) (hf : f ≤ 4080) (level : Byte) : filterUpdate w f level ≤ 4080 :=
  (filterUpdate_between hw f level).2.trans (max_le hf (seedOf_le level))

/-- Settles O48: the filter by its rounded step, WEAK by the two bounds of its table. -/
theorem filterAndWeak : Obligations.FilterAndWeak := by
  refine ⟨fun w f level _ hw hf => ?filter, fun p f weak => ?table⟩
  case filter =>
    obtain ⟨lower, upper⟩ := filterUpdate_between hw f level
    refine ⟨fun k hk hk' => ?step, lower, upper, filterUpdate_le hw hf level, ?whole⟩
    case step =>
      rw [filterUpdate_cast hw]
      omega
    case whole =>
      have := filterUpdate_cast le_rfl f level
      omega
  case table =>
    unfold weakAfter
    refine ⟨fun h => if_pos h, fun hlow hhigh => ?_, fun hlow hhigh => ?_⟩
    · rw [if_neg (not_lt.2 hlow), if_pos hhigh]
    · rw [if_neg (not_lt.2 hlow), if_neg (not_lt.2 hhigh)]

/-! ### The candidate list (R88) -/

/-- The entry placed and the others, and no more, stand in the list. -/
theorem mem_placeCandidate {c x : Candidate} {l : List Candidate} : x ∈ placeCandidate c l ↔ x = c ∨ x ∈ l := by
  induction l with
  | nil => rw [placeCandidate, List.mem_singleton, or_iff_left List.not_mem_nil]
  | cons d rest ih =>
    unfold placeCandidate
    split
    · rw [List.mem_cons, ih, List.mem_cons, or_left_comm]
    · rw [List.mem_cons]

/-- The place of an entry splits the others behind the last one whose F16 is at least its own (R88). -/
theorem placeCandidate_split (c : Candidate) (l : List Candidate) :
    ∃ before behind, l = before ++ behind ∧ placeCandidate c l = before ++ c :: behind ∧
      (∀ d ∈ behind, d.f16 < c.f16) ∧ ∀ d, before.getLast? = some d → c.f16 ≤ d.f16 := by
  induction l with
  | nil => exact ⟨[], [], rfl, rfl, by simp, by simp⟩
  | cons d rest ih =>
    unfold placeCandidate
    split
    · next hany =>
      obtain ⟨before, behind, hl, hp, hbehind, hlast⟩ := ih
      refine ⟨d :: before, behind, by rw [hl, List.cons_append], by rw [hp, List.cons_append], hbehind, ?_⟩
      cases before with
      | nil =>
        obtain rfl : rest = behind := hl
        obtain ⟨x, hx, hle⟩ := List.any_eq_true.1 hany
        have hle : c.f16 ≤ x.f16 := of_decide_eq_true hle
        rcases List.mem_cons.1 hx with rfl | hmem
        · exact fun y hy => Option.some.inj hy ▸ hle
        · exact absurd (hbehind x hmem) (not_lt.2 hle)
      | cons b before => exact fun y hy => hlast y (List.getLast?_cons_cons ▸ hy)
    · next hnone =>
      have lower : ∀ x ∈ d :: rest, x.f16 < c.f16 := by simpa using hnone
      exact ⟨[], d :: rest, rfl, rfl, lower, by simp⟩

/-- A list ordered by F16 takes an entry in its order (R87). -/
theorem placeCandidate_pairwise {c : Candidate} {l : List Candidate} (h : l.Pairwise fun x y => y.f16 ≤ x.f16) :
    (placeCandidate c l).Pairwise fun x y => y.f16 ≤ x.f16 := by
  induction l with
  | nil => exact List.pairwise_singleton ..
  | cons d rest ih =>
    obtain ⟨first, tail⟩ := List.pairwise_cons.1 h
    unfold placeCandidate
    split
    · next hany =>
      refine List.pairwise_cons.2 ⟨fun y hy => ?_, ih tail⟩
      rcases mem_placeCandidate.1 hy with rfl | hmem
      · obtain ⟨x, hx, hle⟩ := List.any_eq_true.1 hany
        have hxd : x.f16 ≤ d.f16 := (List.mem_cons.1 hx).elim (fun e => e ▸ le_rfl) (first x)
        exact (of_decide_eq_true hle).trans hxd
      · exact first y hmem
    · next hnone =>
      have lower : ∀ x ∈ d :: rest, x.f16 < c.f16 := by simpa using hnone
      exact List.pairwise_cons.2 ⟨fun x hx => (lower x hx).le, h⟩

/-- Settles O49, by induction over the list for the place and for the order. -/
theorem candidatesArePlacedInOrder : Obligations.CandidatesArePlacedInOrder :=
  fun c l => ⟨placeCandidate_split c l, placeCandidate_pairwise⟩

end Sys2Proof.Machine
end

section
/-! The ranges of levels, dwells and timer counts (R81, R87, R140) under the state's writes and the shared operations:
each keeps the levels in range by themselves, and the counts by themselves. -/

namespace Sys2Proof.Machine

/-! ### The ranges of one candidate, one record and one entry -/

/-- The candidate's F16 and dwell lie in range (R87). -/
def Candidate.LevelsFit (c : Candidate) : Prop := c.f16 ≤ 4080 ∧ c.dwell ≤ 255

/-- The candidate's age timer, where it runs, lies below the highest CAND_AGE (R140, R173). -/
def Candidate.CountsFit (c : Candidate) : Prop := ∀ t, c.age = some t → t.count ≤ 254

/-- The record's F16S and its candidates' levels lie in range (R81, R87). -/
def Record.LevelsFit (r : Record) : Prop := r.f16s ≤ 4080 ∧ ∀ c ∈ r.candidates, c.LevelsFit

/-- The record's running timers lie below their parameters' highest values (R140, R173). -/
def Record.CountsFit (r : Record) : Prop :=
  (∀ t, r.serveLost = some t → t.count ≤ 254) ∧ (∀ t, r.retain = some t → t.count ≤ 65534) ∧
    ∀ c ∈ r.candidates, c.CountsFit

/-- The entry's running timers lie below their parameters' highest values (R140, R173). -/
def Entry.CountsFit (x : Entry) : Prop :=
  (∀ t, x.prepTimer = some t → t.count ≤ 254) ∧ ∀ t, x.moveTimer = some t → t.count ≤ 254

theorem levelsInRange_iff {s : State} : LevelsInRange s ↔ ∀ i r, s.rec? i = some r → r.LevelsFit := Iff.rfl

theorem countsInRange_iff {s : State} :
    CountsInRange s ↔ (∀ i r, s.rec? i = some r → r.CountsFit) ∧ ∀ x ∈ s.handoffs, x.CountsFit := Iff.rfl

/-- Candidate d is in range where candidate c is. -/
def Candidate.RangeKept (c d : Candidate) : Prop := (c.LevelsFit → d.LevelsFit) ∧ (c.CountsFit → d.CountsFit)

/-- Record q is in range where record r is. -/
def Record.RangeKept (r q : Record) : Prop := (r.LevelsFit → q.LevelsFit) ∧ (r.CountsFit → q.CountsFit)

/-- From s to t the levels stay in range, and so do the counts. -/
def RangeKept (s t : State) : Prop := (LevelsInRange s → LevelsInRange t) ∧ (CountsInRange s → CountsInRange t)

namespace RangeKept

theorem refl (s : State) : RangeKept s s := ⟨id, id⟩

theorem trans {s t u : State} (h : RangeKept s t) (k : RangeKept t u) : RangeKept s u := ⟨k.1 ∘ h.1, k.2 ∘ h.2⟩

/-- A fold of operations that each keep the ranges keeps them. -/
theorem foldl {α : Type} (f : State → α → State) (hf : ∀ s a, RangeKept s (f s a)) :
    ∀ (l : List α) (s : State), RangeKept s (l.foldl f s)
  | [], s => .refl s
  | a :: rest, s => (hf s a).trans (RangeKept.foldl f hf rest (f s a))

end RangeKept

/-! ### Timers -/

/-- A timer started or restarted counts from 0 (R140). -/
theorem start_fits {bound : Nat} : ∀ t, some Timer.start = some t → t.count ≤ bound := by
  rintro _ ⟨⟩
  exact Nat.zero_le bound

/-- A stopped timer has no count. -/
theorem stopped_fits {bound : Nat} : ∀ t, (none : Option Timer) = some t → t.count ≤ bound := nofun

/-- A boundary keeps a timer below the highest value of its parameter (R140). -/
theorem boundary_fits {o : Option Timer} {bound limit : Nat} (hl : limit ≤ bound + 1)
    (h : ∀ t, o = some t → t.count ≤ bound) : ∀ t, o.map (Timer.boundary limit) = some t → t.count ≤ bound := by
  intro t ht
  obtain ⟨u, hu, rfl⟩ := Option.map_eq_some_iff.1 ht
  exact Nat.le_of_lt_succ (Timer.boundary_count_lt (Nat.lt_succ_of_le (h u hu)) hl)

/-- A timer that passes its boundary stays below the highest value of its parameter (R140). -/
theorem pass_fits {o : Option Timer} {bound limit : Nat} (hl : limit ≤ bound + 1) (hx : ¬ timerExpires limit o = true)
    (h : ∀ t, o = some t → t.count ≤ bound) : ∀ t, o.map Timer.pass = some t → t.count ≤ bound := by
  intro t ht
  obtain ⟨u, rfl, rfl⟩ := Option.map_eq_some_iff.1 ht
  exact Nat.le_of_lt_succ (Timer.pass_count_lt (Nat.lt_succ_of_le (h u rfl)) hl (Bool.eq_false_iff.2 hx))

/-! ### Writes of a record -/

namespace Record.RangeKept

theorem refl (r : Record) : r.RangeKept r := ⟨fun h => h, fun h => h⟩

/-- A list of candidates that are in range where the record is. -/
theorem listed {r : Record} {l : List Candidate}
    (h : ∀ d ∈ l, (r.LevelsFit → d.LevelsFit) ∧ (r.CountsFit → d.CountsFit)) :
    r.RangeKept { r with candidates := l } :=
  ⟨fun hr => ⟨hr.1, fun d hd => (h d hd).1 hr⟩, fun hr => ⟨hr.1, hr.2.1, fun d hd => (h d hd).2 hr⟩⟩

/-- Candidates of the record's own list. -/
theorem sublisted {r : Record} {l : List Candidate} (h : ∀ d ∈ l, d ∈ r.candidates) :
    r.RangeKept { r with candidates := l } :=
  listed fun d hd => ⟨fun hr => hr.2 d (h d hd), fun hr => hr.2.2 d (h d hd)⟩

/-- The candidates changed one by one. -/
theorem mapped {r : Record} {f : Candidate → Candidate} (h : ∀ c ∈ r.candidates, c.RangeKept (f c)) :
    r.RangeKept { r with candidates := r.candidates.map f } := by
  refine listed fun d hd => ?_
  obtain ⟨c, hc, rfl⟩ := List.mem_map.1 hd
  exact ⟨fun hr => (h c hc).1 (hr.2 c hc), fun hr => (h c hc).2 (hr.2.2 c hc)⟩

/-- The candidates of one antenna changed (R88). -/
theorem mappedAt {r : Record} {a : AntennaId} {f : Candidate → Candidate}
    (h : ∀ c ∈ r.candidates, c.antenna = a → c.RangeKept (f c)) :
    r.RangeKept { r with candidates := mapCandidate r.candidates a f } := by
  refine mapped fun c hc => ?_
  split
  · next hca => exact h c hc hca
  · exact ⟨fun h => h, fun h => h⟩

/-- An entry placed among some of the record's candidates (R88). -/
theorem placed {r : Record} {c : Candidate} {l : List Candidate} (hl : ∀ d ∈ l, d ∈ r.candidates)
    (hc : (r.LevelsFit → c.LevelsFit) ∧ (r.CountsFit → c.CountsFit)) :
    r.RangeKept { r with candidates := placeCandidate c l } := by
  refine listed fun d hd => ?_
  rcases mem_placeCandidate.1 hd with rfl | hmem
  · exact hc
  · exact ⟨fun hr => hr.2 d (hl d hmem), fun hr => hr.2.2 d (hl d hmem)⟩

end Record.RangeKept

/-- A dwell written within its range keeps the candidate in range (R101). -/
theorem dwell_rangeKept (c : Candidate) {n : Nat} (h : n ≤ 255) : c.RangeKept { c with dwell := n } :=
  ⟨fun hc => ⟨hc.1, h⟩, id⟩

/-- The levels and the counts of a record are of its face (R74, R55). -/
theorem face_rangeKept {q r : Record} (h : q.face = r.face) : r.RangeKept q := by
  obtain ⟨-, hf16, -, -, -, -, hserve, hretain, -⟩ := face_fields h
  have hlist : q.candidates.map (fun d => { d with blocked := false }) =
      r.candidates.map fun d => { d with blocked := false } :=
    congrArg Record.candidates (a₁ := q.face) (a₂ := r.face) h
  have listed : ∀ d ∈ q.candidates, ∃ c ∈ r.candidates, c.f16 = d.f16 ∧ c.dwell = d.dwell ∧ c.age = d.age := by
    intro d hd
    have hmem : { d with blocked := false } ∈ r.candidates.map fun d => { d with blocked := false } :=
      hlist ▸ List.mem_map_of_mem hd
    obtain ⟨c, hc, heq⟩ := List.mem_map.1 hmem
    exact ⟨c, hc, (congrArg Candidate.f16 heq :), (congrArg Candidate.dwell heq :), (congrArg Candidate.age heq :)⟩
  refine ⟨fun hr => ⟨hf16 ▸ hr.1, fun d hd => ?_⟩,
    fun hr => ⟨hserve ▸ hr.1, hretain ▸ hr.2.1, fun d hd t ht => ?_⟩⟩
  · obtain ⟨c, hc, hf, hw, -⟩ := listed d hd
    exact ⟨hf ▸ (hr.2 c hc).1, hw ▸ (hr.2 c hc).2⟩
  · obtain ⟨c, hc, -, -, hage⟩ := listed d hd
    exact hr.2.2 c hc t (hage.trans ht)

/-! ### The state's own writes -/

/-- What makes each record of one in range, and each entry of one in range, keeps the ranges. -/
theorem rangeKept_of_each {s t : State} (hr : ∀ j q, t.rec? j = some q → ∃ r, s.rec? j = some r ∧ r.RangeKept q)
    (hx : ∀ y ∈ t.handoffs, ∃ x ∈ s.handoffs, x.CountsFit → y.CountsFit) : RangeKept s t := by
  refine ⟨fun h => levelsInRange_iff.2 fun j q hq => ?_,
    fun h => countsInRange_iff.2 ⟨fun j q hq => ?_, fun y hy => ?_⟩⟩
  · obtain ⟨r, hr, kept⟩ := hr j q hq
    exact kept.1 (h j r hr)
  · obtain ⟨r, hr, kept⟩ := hr j q hq
    exact kept.2 (h.1 j r hr)
  · obtain ⟨x, hx, kept⟩ := hx y hy
    exact kept (h.2 x hx)

/-- What keeps every record's face and the table keeps the ranges. -/
theorem Kept.rangeKept {s t : State} (h : Kept s t) : RangeKept s t := by
  refine rangeKept_of_each (fun j q hq => ?_) fun y hy => ⟨y, h.1 ▸ hy, id⟩
  obtain ⟨r, hr, hface⟩ := h.back hq
  exact ⟨r, hr, face_rangeKept hface⟩

theorem setRec_rangeKept {s : State} {i : RosterIx} {r q : Record} (hr : s.rec? i = some r) (h : r.RangeKept q) :
    RangeKept s (s.setRec i (some q)) := by
  refine rangeKept_of_each (fun j p hp => ?_) fun y hy => ⟨y, hy, id⟩
  rw [State.rec?_setRec] at hp
  split at hp
  · next hij => exact ⟨r, hij ▸ hr, Option.some.inj hp ▸ h⟩
  · exact ⟨p, hp, .refl p⟩

theorem modRec_rangeKept (s : State) (i : RosterIx) {f : Record → Record}
    (h : ∀ r : Record, r.RangeKept (f r)) :
    RangeKept s (s.modRec i f) := by
  unfold State.modRec
  split
  · exact .refl s
  · next r hr => exact setRec_rangeKept hr (h r)

/-- A record written afresh, itself in range. -/
theorem setRec_fresh_rangeKept (s : State) (i : RosterIx) {q : Record} (hl : q.LevelsFit) (hc : q.CountsFit) :
    RangeKept s (s.setRec i (some q)) := by
  have fits : ∀ {P : Record → Prop}, P q → (∀ j r, s.rec? j = some r → P r) →
      ∀ j r, (s.setRec i (some q)).rec? j = some r → P r := by
    intro P hq hs j r hr
    rw [State.rec?_setRec] at hr
    split at hr
    · exact Option.some.inj hr ▸ hq
    · exact hs j r hr
  exact ⟨fits hl, fun h => ⟨fits hc h.1, h.2⟩⟩

theorem freeRecord_rangeKept (i : RosterIx) (s : State) : RangeKept s (freeRecord i s) := by
  refine rangeKept_of_each (fun j p hp => ?_) fun y hy => ⟨y, hy, id⟩
  rw [freeRecord, State.rec?_setRec] at hp
  split at hp
  · exact nomatch hp
  · exact ⟨p, hp, .refl p⟩

/-- The entries of one number changed, each to one in range. -/
theorem modEntry_rangeKept {s : State} {e : EntryNo} {f : Entry → Entry}
    (h : ∀ x ∈ s.handoffs, x.num = e → x.CountsFit → (f x).CountsFit) : RangeKept s (s.modEntry e f) := by
  refine rangeKept_of_each (fun j p hp => ⟨p, hp, .refl p⟩) fun y hy => ?_
  obtain ⟨x, hx, rfl⟩ := List.mem_map.1 hy
  refine ⟨x, hx, ?_⟩
  split
  · next hn => exact h x hx hn
  · exact id

theorem freeEntry_rangeKept (s : State) (e : EntryNo) : RangeKept s (s.freeEntry e) := by
  unfold State.freeEntry
  split
  · exact .refl s
  · refine .trans (t := { s with handoffs := s.handoffs.filter fun y => y.num != e }) ?_
      (modRec_rangeKept _ _ fun _ => ⟨id, id⟩)
    exact rangeKept_of_each (fun j p hp => ⟨p, hp, .refl p⟩) fun y hy => ⟨y, List.mem_of_mem_filter hy, id⟩

/-- An entry whose timers are stopped joins the table (R108). -/
theorem append_rangeKept (s : State) {x : Entry} (hp : x.prepTimer = none) (hm : x.moveTimer = none) (n : BitVec 32) :
    RangeKept s { s with handoffs := s.handoffs ++ [x], seqCounter := n } := by
  refine ⟨id, fun h => ⟨h.1, fun y hy => ?_⟩⟩
  rcases List.mem_append.1 hy with hmem | hnew
  · exact h.2 y hmem
  · rw [List.mem_singleton.1 hnew, hp, hm]
    exact ⟨nofun, nofun⟩

theorem setKey_rangeKept (i : RosterIx) (k : KeyState) (s : State) : RangeKept s (setKey i k s) :=
  modRec_rangeKept _ _ fun _ => ⟨id, id⟩

/-- Antennas and links bear no level and no timer. -/
theorem setAnt_rangeKept (s : State) (a : AntennaId) (x : Antenna) : RangeKept s (s.setAnt a x) := ⟨id, id⟩

theorem modAnt_rangeKept (s : State) (a : AntennaId) (f : Antenna → Antenna) : RangeKept s (s.modAnt a f) := ⟨id, id⟩

theorem modLink_rangeKept (s : State) (l : LinkId) (f : Link → Link) : RangeKept s (s.modLink l f) := ⟨id, id⟩

/-! ### The Frame Planner -/

theorem takeSeat_rangeKept (a : AntennaId) (p : Placement) (x : Seat) (c : ListenSet) (s : State) :
    RangeKept s (takeSeat a p x c s) :=
  (modAnt_rangeKept ..).trans (modAnt_rangeKept ..)

theorem roomMade_rangeKept (a : AntennaId) (s : State) : RangeKept s (roomMade a s) := (roomMade_kept a s).rangeKept

theorem closureCheck_rangeKept (a : AntennaId) (s : State) : RangeKept s (closureCheck a s) := by
  unfold closureCheck
  split
  · exact modAnt_rangeKept ..
  · exact .refl s

theorem releaseSeat_rangeKept (a : AntennaId) (g : GroupIx) (n : SeatNo) (c : ListenSet) (s : State) :
    RangeKept s (releaseSeat a g n c s) := by
  have unseated : RangeKept s (unseat a g n c s) := (modAnt_rangeKept ..).trans (modAnt_rangeKept ..)
  exact unseated.trans ((roomMade_rangeKept ..).trans (closureCheck_rangeKept ..))

theorem lowerSeat_rangeKept (a : AntennaId) (g : GroupIx) (n : SeatNo) (p : Profile) (s : State) :
    RangeKept s (lowerSeat a g n p s) :=
  (modAnt_rangeKept ..).trans (roomMade_rangeKept ..)

theorem convertSeat_rangeKept (a : AntennaId) (g : GroupIx) (n : SeatNo) (r : Record) (s : State) :
    RangeKept s (convertSeat a g n r s) := by
  rw [convertSeat_eq]
  exact (converted_kept s a g n r).rangeKept

theorem keyPress_rangeKept (i : RosterIx) (s : State) : RangeKept s (keyPress i s).1 := by
  unfold keyPress
  split
  · exact .refl s
  · split
    · next h =>
      dsimp only
      split
      · exact (rePlace?_kept h).rangeKept.trans (roomMade_rangeKept ..)
      · exact (rePlace?_kept h).rangeKept
    · split
      · exact (modAnt_rangeKept ..).trans (setKey_rangeKept ..)
      · exact setKey_rangeKept ..

theorem applyPending_rangeKept (i : RosterIx) (s : State) : RangeKept s (applyPending i s) := by
  unfold applyPending
  split
  · exact .refl s
  · split
    · exact keyPress_rangeKept ..
    · exact .refl s

/-! ### The Handoff Engine -/

theorem modCandidate_rangeKept (i : RosterIx) (a : AntennaId) {f : Candidate → Candidate} (s : State)
    (h : ∀ c : Candidate, c.RangeKept (f c)) : RangeKept s (modCandidate i a f s) :=
  modRec_rangeKept _ _ fun _ => .mappedAt fun c _ _ => h c

theorem candidateDwell_rangeKept (i : RosterIx) (a : AntennaId) (s : State) : RangeKept s (candidateDwell i a s) := by
  unfold candidateDwell
  split
  · exact .refl s
  · refine modCandidate_rangeKept _ _ _ fun c => ?_
    split
    · exact dwell_rangeKept c (Nat.zero_le _)
    · split
      · exact ⟨id, id⟩
      · split
        · exact dwell_rangeKept c (min_le_left ..)
        · exact dwell_rangeKept c (Nat.zero_le _)

theorem servingDwell_rangeKept (i : RosterIx) (s : State) : RangeKept s (servingDwell i s) := by
  unfold servingDwell
  split
  · exact .refl s
  · refine modRec_rangeKept _ _ fun r => .mapped fun c _ => ?_
    split
    · exact dwell_rangeKept c (Nat.zero_le _)
    · exact ⟨id, id⟩

theorem blockCandidate_rangeKept (i : RosterIx) (a : AntennaId) (s : State) : RangeKept s (blockCandidate i a s) :=
  modCandidate_rangeKept _ _ _ fun _ => ⟨fun h => ⟨h.1, Nat.zero_le _⟩, id⟩

theorem removeEntry_rangeKept (e : EntryNo) (i : RosterIx) (s : State) : RangeKept s (removeEntry e i s) :=
  (freeEntry_rangeKept ..).trans ((modRec_rangeKept _ _ fun _ => by exact ⟨id, id⟩).trans (applyPending_rangeKept ..))

theorem markStarted_rangeKept (e : EntryNo) (x : Entry) (p : Placement) (s : State) :
    RangeKept s (markStarted e x p s) :=
  .trans (modEntry_rangeKept fun _ _ _ h => by exact ⟨start_fits, h.2⟩)
    (modCandidate_rangeKept _ _ _ fun _ => by exact ⟨id, fun _ => stopped_fits⟩)

theorem startEntry_rangeKept (e : EntryNo) (s : State) : RangeKept s (startEntry e s) := by
  unfold startEntry
  split
  · exact .refl s
  · split
    · exact freeEntry_rangeKept ..
    · split
      · exact removeEntry_rangeKept ..
      · split
        · exact (blockCandidate_rangeKept ..).trans (removeEntry_rangeKept ..)
        · exact (takeSeat_rangeKept ..).trans (markStarted_rangeKept ..)

theorem depthReleaseLoop_rangeKept (k : LinkId) : ∀ (n : Nat) (s : State), RangeKept s (depthReleaseLoop k n s)
  | 0, s => .refl s
  | n + 1, s => by
    unfold depthReleaseLoop
    split
    · split
      · exact .refl s
      · exact (startEntry_rangeKept ..).trans (depthReleaseLoop_rangeKept k n _)
    · exact .refl s

theorem depthReleaseFor_rangeKept (k : Option LinkId) (s : State) : RangeKept s (depthReleaseFor k s) := by
  unfold depthReleaseFor
  split
  · exact .refl s
  · exact depthReleaseLoop_rangeKept ..

theorem depthReleaseAll_rangeKept (s : State) : RangeKept s (depthReleaseAll s) :=
  .foldl _ (fun s k => depthReleaseLoop_rangeKept k _ s) ..

theorem keyAtTrigger_rangeKept (i : RosterIx) (s : State) : RangeKept s (keyAtTrigger i s) := by
  unfold keyAtTrigger
  split
  · exact .refl s
  · split
    · exact (modAnt_rangeKept ..).trans (setKey_rangeKept ..)
    · exact .refl s

theorem trigger_rangeKept (i : RosterIx) (a : AntennaId) (s : State) : RangeKept s (trigger i a s) := by
  unfold trigger
  split
  · next e _ _ =>
    dsimp only
    have handed : RangeKept s ((keyAtTrigger i s).modRec i fun r => { r with state := .handing, handoff := some e }) :=
      (keyAtTrigger_rangeKept ..).trans (modRec_rangeKept _ _ fun _ => ⟨id, id⟩)
    split
    · exact handed.trans (append_rangeKept _ (by rfl) (by rfl) _)
    · exact (handed.trans (append_rangeKept _ (by rfl) (by rfl) _)).trans (startEntry_rangeKept ..)
  · exact .refl s

theorem evaluate_rangeKept (w : Bool) (i : RosterIx) (s : State) : RangeKept s (evaluate w i s) := by
  unfold evaluate
  split
  · exact .refl s
  · split
    · split
      · exact .refl s
      · exact trigger_rangeKept ..
    · exact .refl s

theorem endReserved_rangeKept (m : SeatEnd) (x : Entry) (s : State) : RangeKept s (endReserved m x s) := by
  unfold endReserved
  split
  · split
    · exact releaseSeat_rangeKept ..
    · exact .refl s
    · exact (modAnt_rangeKept ..).trans (modAnt_rangeKept ..)
  · exact .refl s

theorem endTarget_rangeKept (x : Entry) (s : State) : RangeKept s (endTarget x s) := by
  refine modCandidate_rangeKept _ _ _ fun c => ?_
  split
  · exact dwell_rangeKept c (Nat.zero_le _)
  · exact ⟨fun h => ⟨h.1, Nat.zero_le _⟩, fun _ => start_fits⟩

theorem abortEntry_rangeKept (m : SeatEnd) (e : EntryNo) (s : State) : RangeKept s (abortEntry m e s) := by
  unfold abortEntry
  split
  · exact .refl s
  · exact (endReserved_rangeKept ..).trans ((endTarget_rangeKept ..).trans (freeEntry_rangeKept ..))

theorem returnRecord_rangeKept (x : Entry) (s : State) : RangeKept s (returnRecord x s) := by
  unfold returnRecord
  split
  · exact .refl s
  · have returned : RangeKept s (s.modRec x.headset fun r =>
        { r with state := .settled, serveLost := some Timer.start }) :=
      modRec_rangeKept _ _ fun _ => ⟨id, fun h => ⟨start_fits, h.2⟩⟩
    dsimp only
    split
    · exact returned.trans ((modAnt_rangeKept ..).trans (applyPending_rangeKept ..))
    · exact returned.trans (applyPending_rangeKept ..)

theorem abortReturn_rangeKept (m : SeatEnd) (e : EntryNo) (s : State) : RangeKept s (abortReturn m e s) := by
  unfold abortReturn
  split
  · exact .refl s
  · exact (abortEntry_rangeKept ..).trans (returnRecord_rangeKept ..)

theorem abortAndRelease_rangeKept (e : EntryNo) (s : State) : RangeKept s (abortAndRelease e s) := by
  unfold abortAndRelease
  split
  · exact .refl s
  · exact (abortReturn_rangeKept ..).trans (depthReleaseFor_rangeKept ..)

theorem abortHeld_rangeKept (m : SeatEnd) (r : Record) (s : State) : RangeKept s (abortHeld m r s) := by
  unfold abortHeld
  split
  · exact .refl s
  · exact abortEntry_rangeKept ..

theorem releaseServing_rangeKept (r : Record) (s : State) : RangeKept s (releaseServing r s) := by
  unfold releaseServing
  split
  · exact .refl s
  · exact releaseSeat_rangeKept ..

/-- The level a completed headset takes over is its target candidate's, or its own (R127). -/
theorem heldLevel_le {r : Record} (h : r.LevelsFit) (a : AntennaId) : heldLevel r.candidates a r.f16s ≤ 4080 := by
  unfold heldLevel
  split
  · exact h.1
  · next c hc => exact (h.2 c (List.mem_of_find?_eq_some hc)).1

/-- Steps 3 to 5 of a completion: what stays in the list stood there, and the entry offered has the last F16S (R127,
R128). -/
theorem completeFilter_rangeKept (t : AntennaId) (offer : Option AntennaId) (r : Record) :
    r.RangeKept (r.completeFilter t offer) := by
  have rest : r.RangeKept { r with
      candidates := (dropCandidate r.candidates t).map fun c => { c with dwell := 0 } } := by
    refine .listed fun d hd => ?_
    obtain ⟨c, hc, rfl⟩ := List.mem_map.1 hd
    have hmem := List.mem_of_mem_filter hc
    exact ⟨fun hr => ⟨(hr.2 c hmem).1, Nat.zero_le _⟩, fun hr => hr.2.2 c hmem⟩
  have listed : r.RangeKept { r with candidates := (r.completeFilter t offer).candidates } := by
    unfold Record.completeFilter
    dsimp only
    split
    · exact rest
    · split
      · exact rest
      · refine .listed fun d hd => ?_
        rcases mem_placeCandidate.1 hd with rfl | hmem
        · exact ⟨fun hr => ⟨hr.1, Nat.zero_le _⟩, fun _ => start_fits⟩
        · exact ⟨fun hr => (rest.1 hr).2 d hmem, fun hr => (rest.2 hr).2.2 d hmem⟩
  exact ⟨fun hr => ⟨heldLevel_le hr t, (listed.1 hr).2⟩, listed.2⟩

/-- The record that a completion writes (R127). -/
theorem arrived_rangeKept (t : AntennaId) (g : GroupIx) (n : SeatNo) (offer : Option AntennaId) (r : Record) :
    r.RangeKept (r.arrived t g n offer) := by
  obtain ⟨levels, counts⟩ := completeFilter_rangeKept t offer r
  exact ⟨levels, fun h => ⟨start_fits, stopped_fits, (counts h).2.2⟩⟩

theorem completeEntry_rangeKept (e : EntryNo) (s : State) : RangeKept s (completeEntry e s) := by
  unfold completeEntry
  split
  · exact .refl s
  · split
    · exact (releaseServing_rangeKept ..).trans ((convertSeat_rangeKept ..).trans
        ((modRec_rangeKept _ _ fun r => arrived_rangeKept _ _ _ _ r).trans ((applyPending_rangeKept ..).trans
          ((freeEntry_rangeKept ..).trans (depthReleaseFor_rangeKept ..)))))
    · exact .refl s

/-! ### The Quality Filter -/

theorem removeCandidate_rangeKept (i : RosterIx) (a : AntennaId) (s : State) : RangeKept s (removeCandidate i a s) := by
  have dropped : RangeKept s (s.modRec i fun r => { r with candidates := dropCandidate r.candidates a }) :=
    modRec_rangeKept _ _ fun _ => .sublisted fun _ => List.mem_of_mem_filter
  unfold removeCandidate
  split
  · exact .refl s
  · dsimp only
    split
    · exact dropped
    · split
      · exact dropped.trans (removeEntry_rangeKept ..)
      · exact dropped

theorem insertCandidate_rangeKept (i : RosterIx) (a : AntennaId) (level : Byte) (s : State) :
    RangeKept s (insertCandidate i (newCandidate a level) s) :=
  modRec_rangeKept _ _ fun _ => .placed (fun _ => id)
    ⟨fun _ => ⟨seedOf_le level, Nat.zero_le _⟩, fun _ => start_fits⟩

theorem handOn_rangeKept (i : RosterIx) (a : AntennaId) (s : State) : RangeKept s (handOn i a s) := by
  unfold handOn
  split
  · exact .refl s
  · split
    · exact (candidateDwell_rangeKept ..).trans (evaluate_rangeKept ..)
    · exact candidateDwell_rangeKept ..
    · exact modCandidate_rangeKept _ _ _ fun c => dwell_rangeKept c (Nat.zero_le _)

/-- The update of a listed entry filters a level in range with a weight in range (R81, R90). -/
theorem updateCandidate_rangeKept {s : State} {i : RosterIx} {r : Record} {c : Candidate}
    (hw : s.params.filterWeight ≤ 16) (hr : s.rec? i = some r) (hc : c ∈ r.candidates) (level : Byte) :
    RangeKept s (updateCandidate i c level s) := by
  unfold updateCandidate
  rw [State.modRec_of_some hr]
  refine setRec_rangeKept hr (.placed (fun _ => List.mem_of_mem_filter) ⟨fun h => ?_, fun _ => start_fits⟩)
  exact ⟨filterUpdate_le hw (h.2 c hc).1 level, (h.2 c hc).2⟩

theorem candidateReport_rangeKept {s : State} (hw : s.params.filterWeight ≤ 16) (i : RosterIx) (a : AntennaId)
    (level : Byte) : RangeKept s (candidateReport i a level s).1 := by
  unfold candidateReport
  split
  · exact .refl s
  · next r hr =>
    split
    · next c hc =>
      exact (updateCandidate_rangeKept hw hr (List.mem_of_find?_eq_some hc) level).trans (handOn_rangeKept ..)
    · split
      · exact (insertCandidate_rangeKept ..).trans (handOn_rangeKept ..)
      · split
        · exact .refl s
        · split
          · exact (removeCandidate_rangeKept ..).trans ((insertCandidate_rangeKept ..).trans (handOn_rangeKept ..))
          · exact .refl s

theorem servingUpdate_rangeKept {s : State} (hw : s.params.filterWeight ≤ 16) (i : RosterIx) (level : Byte) :
    RangeKept s (servingUpdate i level s) :=
  modRec_rangeKept _ _ fun _ => ⟨fun h => ⟨filterUpdate_le hw h.1 level, h.2⟩, id⟩

theorem servingEvaluation_rangeKept (i : RosterIx) (s : State) : RangeKept s (servingEvaluation i s) := by
  unfold servingEvaluation
  split
  · exact .refl s
  · split
    · exact evaluate_rangeKept ..
    · exact .refl s

theorem servingReport_rangeKept {s : State} (hw : s.params.filterWeight ≤ 16) (i : RosterIx) (level : Byte) :
    RangeKept s (servingReport i level s) := by
  unfold servingReport
  split
  · exact .refl s
  · have updated := servingUpdate_rangeKept hw i level
    have restarted : RangeKept s
        ((servingUpdate i level s).modRec i fun r => { r with serveLost := some Timer.start }) :=
      updated.trans (modRec_rangeKept _ _ fun _ => ⟨id, fun h => ⟨start_fits, h.2⟩⟩)
    refine .trans ?_ ((servingDwell_rangeKept ..).trans (servingEvaluation_rangeKept ..))
    split
    · exact restarted
    · split
      · split
        · exact updated.trans (abortAndRelease_rangeKept ..)
        · exact updated
      · exact restarted

/-- A record seated afresh is in range whatever it held (R9, R11, R16). -/
theorem seated_fits (a : AntennaId) (p : Placement) (level : Byte) (r : Record) :
    (r.seated a p level).LevelsFit ∧ (r.seated a p level).CountsFit :=
  ⟨⟨seedOf_le level, nofun⟩, start_fits, stopped_fits, nofun⟩

theorem readmit_rangeKept {s : State} (hw : s.params.filterWeight ≤ 16) (i : RosterIx) (a : AntennaId) (level : Byte)
    (r : Record) : RangeKept s (readmit i a level r s).1 := by
  unfold readmit
  split
  · exact candidateReport_rangeKept hw ..
  · next p _ =>
    refine (takeSeat_rangeKept ..).trans (.trans (modRec_rangeKept _ _ fun q => ?_) (applyPending_rangeKept ..))
    obtain ⟨levels, counts⟩ := seated_fits a p level q
    exact ⟨fun _ => levels, fun _ => counts⟩

theorem applyPair_rangeKept {s : State} (hw : s.params.filterWeight ≤ 16) (a : AntennaId) (p : HeadsetId × Byte) :
    RangeKept s (applyPair a p s).1 := by
  unfold applyPair
  split
  · exact .refl s
  · split
    · exact .refl s
    · split
      · exact .refl s
      · exact servingReport_rangeKept hw ..
      · exact completeEntry_rangeKept ..
      · exact candidateReport_rangeKept hw ..
      · exact readmit_rangeKept hw ..

theorem applyPairs_rangeKept (a : AntennaId) : ∀ (ps : List (HeadsetId × Byte)) {s : State},
    s.params.filterWeight ≤ 16 → RangeKept s (applyPairs a ps s).1
  | [], s, _ => .refl s
  | p :: rest, s, hw =>
    (applyPair_rangeKept hw a p).trans (applyPairs_rangeKept a rest (by rwa [(applyPair_rest a p s).params]))

/-! ### The Roster -/

theorem leaveOwnQueue_rangeKept (i : RosterIx) (r : Record) (s : State) : RangeKept s (leaveOwnQueue i r s) := by
  unfold leaveOwnQueue
  split
  · exact modAnt_rangeKept ..
  · exact .refl s

theorem detachRecord_rangeKept (i : RosterIx) (r : Record) (s : State) : RangeKept s (detachRecord i r s) :=
  (abortHeld_rangeKept ..).trans ((leaveOwnQueue_rangeKept ..).trans ((releaseServing_rangeKept ..).trans
    ((freeRecord_rangeKept ..).trans (depthReleaseFor_rangeKept ..))))

theorem keyAtLoss_rangeKept (i : RosterIx) (r : Record) (s : State) : RangeKept s (keyAtLoss i r s) := by
  unfold keyAtLoss
  split
  · exact (leaveOwnQueue_rangeKept ..).trans (setKey_rangeKept ..)
  · exact setKey_rangeKept ..
  · exact .refl s
  · exact .refl s

theorem enterAdrift_rangeKept (m : SeatEnd) (i : RosterIx) (s : State) : RangeKept s (enterAdrift m i s) := by
  unfold enterAdrift
  split
  · exact .refl s
  · refine .trans ?_ (modRec_rangeKept _ _ fun _ => ⟨id, fun h => ⟨stopped_fits, start_fits, h.2.2⟩⟩)
    split
    · exact (keyAtLoss_rangeKept ..).trans (releaseServing_rangeKept ..)
    · exact keyAtLoss_rangeKept ..

theorem serveLostExpiry_rangeKept (i : RosterIx) (s : State) : RangeKept s (serveLostExpiry i s) := by
  unfold serveLostExpiry
  split
  · exact .refl s
  · exact (abortHeld_rangeKept ..).trans ((enterAdrift_rangeKept ..).trans (depthReleaseFor_rangeKept ..))

theorem retainExpiry_rangeKept (i : RosterIx) (s : State) : RangeKept s (retainExpiry i s) := by
  unfold retainExpiry
  split
  · exact .refl s
  · exact (abortHeld_rangeKept ..).trans ((freeRecord_rangeKept ..).trans (depthReleaseFor_rangeKept ..))

theorem changeListen_rangeKept (i : RosterIx) (r : Record) (c : ListenSet) (s : State) :
    RangeKept s (changeListen i r c s) := by
  unfold changeListen
  split
  · exact .refl s
  · refine .trans ?_ (modRec_rangeKept _ _ fun _ => ⟨id, id⟩)
    split <;> split <;> exact ⟨id, id⟩

theorem evictFor_rangeKept (a : AntennaId) (s : State) : RangeKept s (evictFor a s).state := by
  unfold evictFor
  split
  · exact .refl s
  · exact .refl s
  · split
    · exact .refl s
    · exact (abortHeld_rangeKept ..).trans (freeRecord_rangeKept ..)

theorem attachNew_rangeKept (h : HeadsetId) (a : AntennaId) (c : Option Profile) (p : Profile) (set : ListenSet)
    (v : Byte) (s : State) : RangeKept s (attachNew h a c p set v s).state := by
  unfold attachNew
  split
  · exact .refl s
  · split
    · exact .refl s
    · dsimp only
      split
      · next i q _ _ =>
        have seated : RangeKept (evictFor a s).state
            (takeSeat a q { headset := i, kind := .serving, burst := p.listenBurst } set
              ((evictFor a s).state.setRec i (some (newRecord h c p set a q v)))) := by
          refine .trans (setRec_fresh_rangeKept _ _ ?_ ?_) (takeSeat_rangeKept ..)
          · exact ⟨seedOf_le v, nofun⟩
          · exact ⟨start_fits, stopped_fits, nofun⟩
        refine (evictFor_rangeKept a s).trans (.trans ?_ (depthReleaseFor_rangeKept ..))
        split
        · exact seated.trans (roomMade_rangeKept ..)
        · exact seated
      · exact .refl s

theorem attachAdrift_rangeKept (i : RosterIx) (r : Record) (a : AntennaId) (c : Option Profile) (p : Profile)
    (set : ListenSet) (v : Byte) (s : State) : RangeKept s (attachAdrift i r a c p set v s).state := by
  unfold attachAdrift
  dsimp only
  split
  · exact (abortHeld_rangeKept ..).trans (depthReleaseFor_rangeKept ..)
  · next q _ =>
    refine (abortHeld_rangeKept ..).trans ((takeSeat_rangeKept ..).trans (.trans (modRec_rangeKept _ _ fun r => ?_)
      ((applyPending_rangeKept ..).trans (depthReleaseFor_rangeKept ..))))
    obtain ⟨levels, counts⟩ := seated_fits a q v r
    exact ⟨fun _ => levels, fun _ => counts⟩

theorem doAttach_rangeKept (l : LinkId) (h : HeadsetId) (a c : Byte) (set : ListenSet) (v : Byte) (s : State) :
    RangeKept s (doAttach l h a c set v s).state := by
  unfold doAttach
  split
  · split
    · exact .refl s
    · split
      · split
        · exact .refl s
        · exact attachNew_rangeKept ..
      · split
        · unfold attachSeated
          split <;> exact .refl s
        · split
          · exact .refl s
          · exact attachAdrift_rangeKept ..
  · exact .refl s

/-! ### The Antenna Table -/

theorem loseMoving_rangeKept (a : AntennaId) (i : RosterIx) (s : State) : RangeKept s (loseMoving a i s) := by
  unfold loseMoving
  split
  · exact .refl s
  · split
    · exact .refl s
    · split
      · exact (enterAdrift_rangeKept ..).trans (modEntry_rangeKept fun _ _ _ => id)
      · exact .refl s

theorem loseServed_rangeKept (a : AntennaId) (i : RosterIx) (s : State) : RangeKept s (loseServed a i s) := by
  unfold loseServed
  split
  · exact .refl s
  · split
    · exact (abortHeld_rangeKept ..).trans (enterAdrift_rangeKept ..)
    · exact .refl s

theorem abortInbound_rangeKept (m : SeatEnd) (a : AntennaId) (s : State) : RangeKept s (abortInbound m a s) :=
  .foldl _ (fun s e => abortReturn_rangeKept m e s) ..

theorem goDown_rangeKept (a : AntennaId) (s : State) : RangeKept s (goDown a s) :=
  (abortInbound_rangeKept ..).trans ((RangeKept.foldl _ (fun s i => loseMoving_rangeKept a i s) ..).trans
    ((RangeKept.foldl _ (fun s i => loseServed_rangeKept a i s) ..).trans (setAnt_rangeKept ..)))

theorem drainOffer_rangeKept (a : AntennaId) (i : RosterIx) (s : State) : RangeKept s (drainOffer a i s) := by
  unfold drainOffer
  split
  · exact .refl s
  · split
    · exact evaluate_rangeKept ..
    · exact .refl s

theorem startDrain_rangeKept (a : AntennaId) (s : State) : RangeKept s (startDrain a s) :=
  (modAnt_rangeKept ..).trans ((abortInbound_rangeKept ..).trans
    ((RangeKept.foldl _ (fun s i => drainOffer_rangeKept a i s) ..).trans
      ((closureCheck_rangeKept ..).trans (depthReleaseAll_rangeKept ..))))

/-! ### Talk keys -/

theorem lowerReserved_rangeKept (r : Record) (s : State) : RangeKept s (lowerReserved r s) := by
  unfold lowerReserved
  split
  · exact .refl s
  · split
    · exact .refl s
    · split
      · exact lowerSeat_rangeKept ..
      · exact .refl s

theorem lowerServing_rangeKept (r : Record) (s : State) : RangeKept s (lowerServing r s) := by
  unfold lowerServing
  split
  · exact .refl s
  · exact lowerSeat_rangeKept ..

theorem releaseKey_rangeKept (i : RosterIx) (r : Record) (s : State) : RangeKept s (releaseKey i r s) := by
  unfold releaseKey
  split
  · exact .refl s
  · exact (lowerServing_rangeKept ..).trans ((lowerReserved_rangeKept ..).trans (setKey_rangeKept ..))
  · exact (leaveOwnQueue_rangeKept ..).trans (setKey_rangeKept ..)
  · exact setKey_rangeKept ..

theorem keyOn_rangeKept (i : RosterIx) (r : Record) (s : State) : RangeKept s (keyOn i r s).state := by
  unfold keyOn
  split
  · exact .refl s
  · split
    · exact keyPress_rangeKept ..
    · exact setKey_rangeKept ..

/-- READY starts the move timer and stops the prepare and serve-lost timers (R118). -/
theorem moveEntry_rangeKept (x : Entry) (s : State) : RangeKept s (moveEntry x s) :=
  .trans (modEntry_rangeKept fun _ _ _ _ => by exact ⟨stopped_fits, start_fits⟩)
    (modRec_rangeKept _ _ fun _ => ⟨id, fun h => ⟨stopped_fits, h.2⟩⟩)

/-! ### Settings -/

theorem airtimeChanged_rangeKept (k : Nat) (s : State) (a : AntennaId) : RangeKept s (airtimeChanged k s a) := by
  unfold airtimeChanged
  dsimp only
  split
  · exact .refl s
  · split
    · exact (modAnt_rangeKept ..).trans (roomMade_rangeKept ..)
    · exact modAnt_rangeKept ..

theorem storeParam_rangeKept {q : Param} {v : Nat} {s t : State} (h : storeParam q v s = .ok t) : RangeKept s t := by
  have written : RangeKept s { s with params := s.params.write q v } := ⟨id, id⟩
  unfold storeParam at h
  dsimp only at h
  split at h
  · exact Except.ok.inj h ▸ .refl s
  · split at h
    · split at h
      · rw [← Except.ok.inj h]
        exact written.trans (.foldl _ (airtimeChanged_rangeKept _) ..)
      · exact nomatch h
    · split at h
      · split at h
        · exact nomatch h
        · split at h <;> rw [← Except.ok.inj h]
          · exact written.trans (depthReleaseAll_rangeKept _)
          · exact written
      · rw [← Except.ok.inj h]
        exact written

theorem doSet_rangeKept (l : LinkId) (number : Byte) (value : BitVec 16) (s : State) :
    RangeKept s (doSet l number value s).state := by
  unfold doSet
  split
  · exact .refl s
  · unfold setParam
    split
    · exact .refl s
    · split
      · exact .refl s
      · next h => exact storeParam_rangeKept h

end Sys2Proof.Machine
end

section
/-! The ranges of levels, dwells and timer counts (R81, R87, R140) under the expiries, every request, every link and
timebase operation, and every step. -/

namespace Sys2Proof.Machine

/-! ### The expiries (R140) -/

/-- In a table of distinct numbers an entry found by its number is the only one of it (R106). -/
theorem eq_of_num_eq {s : State} {e : EntryNo} {x y : Entry} (ht : TableInOrder s) (hx : s.entry? e = some x)
    (hy : y ∈ s.handoffs) (hn : y.num = e) : y = x :=
  List.inj_on_of_nodup_map ht.2 hy (State.entry?_mem hx) (hn.trans (State.entry?_num hx).symm)

/-- A timer that takes its boundary without expiring stays below its parameter, which lies in its range; for an entry's
timer, the entry is the only one of its number (R106, R140, R173). -/
theorem takeExpiry_rangeKept {s : State} (hp : ParamsInRange s) (ht : TableInOrder s) (x : Expiry) :
    RangeKept s (takeExpiry x s) := by
  cases x with
  | serveLost i =>
    rw [takeExpiry, takeServeLost]
    split
    · exact .refl s
    · next r hr =>
      split
      · exact serveLostExpiry_rangeKept ..
      · next hx => exact setRec_rangeKept hr ⟨id, fun h => ⟨pass_fits (hp .serveLost).2 hx h.1, h.2⟩⟩
  | retain i =>
    rw [takeExpiry, takeRetain]
    split
    · exact .refl s
    · next r hr =>
      split
      · exact retainExpiry_rangeKept ..
      · next hx => exact setRec_rangeKept hr ⟨id, fun h => ⟨h.1, pass_fits (hp .retain).2 hx h.2.1, h.2.2⟩⟩
  | candidateAge i a =>
    rw [takeExpiry, takeCandidateAge]
    split
    · exact .refl s
    · next r hr =>
      split
      · exact removeCandidate_rangeKept ..
      · next hnone =>
        refine setRec_rangeKept hr (.mappedAt fun c hc hca => ⟨id, pass_fits (hp .candAge).2 fun hx => hnone ?_⟩)
        exact List.any_eq_true.2 ⟨c, hc, Bool.and_eq_true_iff.2 ⟨beq_iff_eq.2 hca, hx⟩⟩
  | prepare e =>
    rw [takeExpiry, takePrepare]
    split
    · exact .refl s
    · next x hx =>
      split
      · exact abortAndRelease_rangeKept ..
      · next hlow =>
        refine modEntry_rangeKept fun y hy hn h => ⟨pass_fits (hp .prepTime).2 ?_ h.1, h.2⟩
        rwa [eq_of_num_eq ht hx hy hn]
  | move e =>
    rw [takeExpiry, takeMove]
    split
    · exact .refl s
    · next x hx =>
      split
      · exact abortAndRelease_rangeKept ..
      · next hlow =>
        refine modEntry_rangeKept fun y hy hn h => ⟨h.1, pass_fits (hp .moveTime).2 ?_ h.2⟩
        rwa [eq_of_num_eq ht hx hy hn]

/-- A frame boundary brings no timer to its parameter's highest value (R140). -/
theorem countTimers_rangeKept {s : State} (hp : ParamsInRange s) : RangeKept s (countTimers s) := by
  have counted : ∀ r : Record, r.RangeKept (r.boundary s.params) := fun r =>
    have aged : r.RangeKept { r with
        candidates := r.candidates.map fun c => { c with age := c.age.map (Timer.boundary s.params.candAge) } } :=
      .mapped fun c _ => ⟨id, boundary_fits (hp .candAge).2⟩
    ⟨aged.1, fun h =>
      ⟨boundary_fits (hp .serveLost).2 h.1, boundary_fits (hp .retain).2 h.2.1, (aged.2 h).2.2⟩⟩
  refine rangeKept_of_each (fun j q hq => ?_) fun y hy => ?_
  · rw [show (countTimers s).rec? j = (s.rec? j).map (Record.boundary s.params) from Vector.getElem_map ..] at hq
    obtain ⟨r, hr, rfl⟩ := Option.map_eq_some_iff.1 hq
    exact ⟨r, hr, counted r⟩
  · obtain ⟨x, hx, rfl⟩ := List.mem_map.1 hy
    exact ⟨x, hx, fun h => ⟨boundary_fits (hp .prepTime).2 h.1, boundary_fits (hp .moveTime).2 h.2⟩⟩

/-! ### The requests -/

theorem withHeadset_rangeKept {h : HeadsetId} {m : Status} {s : State} {act : RosterIx → Record → Answer}
    (ha : ∀ i r, RangeKept s (act i r).state) : RangeKept s (withHeadset h m s act).state := by
  unfold withHeadset
  split
  · split
    · exact .refl s
    · split
      · exact .refl s
      · exact ha ..
  · exact .refl s

theorem antennaRequest_rangeKept {l : LinkId} {a : Byte} {s : State} {f g : AntennaId → Answer}
    (hf : ∀ a, RangeKept s (f a).state) (hg : ∀ a, RangeKept s (g a).state) :
    RangeKept s (antennaRequest l a s f g).state := by
  unfold antennaRequest
  split
  · exact .refl s
  · split
    · exact hf _
    · split
      · exact .refl s
      · exact hg _

theorem answerPrepare_rangeKept {l : LinkId} {h : HeadsetId} {s : State} {act : Entry → State}
    (ha : ∀ x, RangeKept s (act x)) : RangeKept s (answerPrepare l h s act).state := by
  refine withHeadset_rangeKept fun i r => ?_
  split
  · exact .refl s
  · split
    · exact ha _
    · exact .refl s

theorem doKey_rangeKept (l : LinkId) (h : HeadsetId) (k : Byte) (s : State) : RangeKept s (doKey l h k s).state := by
  unfold doKey
  split
  · exact .refl s
  · refine withHeadset_rangeKept fun i r => ?_
    split
    · exact .refl s
    · split
      · exact keyOn_rangeKept ..
      · exact releaseKey_rangeKept ..

theorem doArrived_rangeKept (l : LinkId) (h : HeadsetId) (a : Byte) (s : State) :
    RangeKept s (doArrived l h a s).state := by
  unfold doArrived
  split
  · exact .refl s
  · refine withHeadset_rangeKept fun i r => ?_
    unfold arrivedAt
    split
    · split
      · exact completeEntry_rangeKept ..
      · exact .refl s
    · split
      · split <;> exact .refl s
      · exact .refl s

theorem doStay_rangeKept (l : LinkId) (h : HeadsetId) (s : State) : RangeKept s (doStay l h s).state := by
  refine withHeadset_rangeKept fun i r => ?_
  split
  · exact .refl s
  · split
    · split
      · exact abortAndRelease_rangeKept ..
      · exact .refl s
    · exact .refl s

theorem doLevels_rangeKept {s : State} (hw : s.params.filterWeight ≤ 16) (l : LinkId) (a : Byte)
    (pairs : List (HeadsetId × Byte)) : RangeKept s (doLevels l a pairs s).state := by
  unfold doLevels
  split
  · exact .refl s
  · split
    · exact .refl s
    · exact applyPairs_rangeKept _ _ hw

/-- The requests that read change no level and no timer (R39, R137, R174). -/
theorem reads_rangeKept (l : LinkId) (b : Byte) (v : BitVec 16) (s : State) :
    RangeKept s (doQueryAntenna b s).state ∧ RangeKept s (doGet b s).state ∧ RangeKept s (doTrim l v s).state := by
  refine ⟨?_, ?_, ?_⟩
  · unfold doQueryAntenna
    split <;> exact .refl s
  · unfold doGet
    split <;> exact .refl s
  · unfold doTrim
    split <;> exact ⟨id, id⟩

/-- Every request keeps the ranges; LEVELS filters with the stored weight (R81, R173). -/
theorem perform_rangeKept {s : State} (hp : ParamsInRange s) (l : LinkId) (q : Request) :
    RangeKept s (perform l q s).state := by
  unfold perform
  cases q.ask with
  | antUp b =>
    refine antennaRequest_rangeKept (fun a => ?_) fun _ => .refl s
    rw [antennaOk_state]
    exact (setAnt_rangeKept ..).trans (clearBlocked_kept ..).rangeKept
  | antDown b =>
    refine antennaRequest_rangeKept (fun _ => .refl s) fun a => ?_
    rw [antennaOk_state]
    exact (goDown_rangeKept a s).trans (depthReleaseAll_rangeKept _)
  | antDrain b =>
    refine antennaRequest_rangeKept (fun _ => .refl s) fun a => ?_
    rw [antennaOk_state]
    split
    · exact startDrain_rangeKept a s
    · exact .refl s
  | antReopen b =>
    refine antennaRequest_rangeKept (fun _ => .refl s) fun a => ?_
    rw [antennaOk_state]
    split
    · exact .refl s
    · exact modAnt_rangeKept ..
  | cardRestart => exact (RangeKept.foldl _ (fun s a => goDown_rangeKept a s) ..).trans (depthReleaseAll_rangeKept _)
  | attach h b c set v => exact doAttach_rangeKept ..
  | detach h => exact withHeadset_rangeKept fun i r => detachRecord_rangeKept ..
  | levels b pairs => exact doLevels_rangeKept (hp .filterWeight).2 ..
  | listen h set => exact withHeadset_rangeKept fun i r => changeListen_rangeKept ..
  | key h k => exact doKey_rangeKept ..
  | ready h => exact answerPrepare_rangeKept fun x => moveEntry_rangeKept ..
  | decline h => exact answerPrepare_rangeKept fun x => abortAndRelease_rangeKept ..
  | arrived h b => exact doArrived_rangeKept ..
  | stay h => exact doStay_rangeKept ..
  | queryHeadset h => exact withHeadset_rangeKept fun i r => .refl s
  | queryAntenna b => exact (reads_rangeKept l b 0 s).1
  | queryClock => exact .refl s
  | set p v => exact doSet_rangeKept ..
  | get p => exact (reads_rangeKept l p 0 s).2.1
  | trim v => exact (reads_rangeKept l 0 v s).2.2
  | clearFlags m => exact modLink_rangeKept ..
  | badLength => exact .refl s
  | unknown => exact .refl s

/-! ### The card links -/

theorem executeOldest_rangeKept {s : State} (hp : ParamsInRange s) (l : LinkId) : RangeKept s (executeOldest l s) := by
  unfold executeOldest
  split
  · next q rest _ _ =>
    have taken : RangeKept s (s.modLink l fun x => { x with slots := rest }) := modLink_rangeKept ..
    exact taken.trans ((perform_rangeKept (by exact hp) l q).trans (modLink_rangeKept ..))
  · exact .refl s

theorem submit_rangeKept {s : State} (hp : ParamsInRange s) (l : LinkId) (q : Request) :
    RangeKept s (submit l q s) := by
  unfold submit
  split
  · have entered : RangeKept s (s.modLink l fun x => { x with slots := x.slots ++ [q] }) := modLink_rangeKept ..
    exact entered.trans (executeOldest_rangeKept (by exact hp) l)
  · exact modLink_rangeKept ..

theorem beginPrepare_rangeKept (l : LinkId) (x : Entry) (s : State) : RangeKept s (beginPrepare l x s) :=
  (modLink_rangeKept ..).trans (modEntry_rangeKept fun _ _ _ => by exact id)

theorem beginMove_rangeKept (l : LinkId) (x : Entry) (s : State) : RangeKept s (beginMove l x s) :=
  (modLink_rangeKept ..).trans (modEntry_rangeKept fun _ _ _ => by exact id)

theorem beginPlan_rangeKept (l : LinkId) (a : AntennaId) (s : State) : RangeKept s (beginPlan l a s) :=
  (modLink_rangeKept ..).trans (modAnt_rangeKept ..)

theorem transmit_rangeKept (l : LinkId) (s : State) : RangeKept s (transmit l s) := by
  unfold transmit
  split
  · exact .refl s
  · exact modLink_rangeKept ..
  · exact beginPrepare_rangeKept ..
  · exact beginMove_rangeKept ..
  · exact beginPlan_rangeKept ..

theorem transmitAll_rangeKept (s : State) : RangeKept s (transmitAll s) :=
  .foldl _ (fun s l => transmit_rangeKept l s) ..

/-- An expiry taken after a free choice keeps the ranges, the parameters and the table's order (log entry 3). -/
theorem takeExpiry_of_choice {s : State} (hp : ParamsInRange s) (ht : TableInOrder s) (x : Expiry) (n : Nat) :
    RangeKept s (takeExpiry x { s with choices := n }) ∧ ParamsInRange (takeExpiry x { s with choices := n }) ∧
      TableInOrder (takeExpiry x { s with choices := n }) :=
  have chosen : RangeKept s { s with choices := n } := ⟨id, id⟩
  ⟨chosen.trans (takeExpiry_rangeKept (s := { s with choices := n }) hp ht x),
    (takeExpiry_limitKept x { s with choices := n }).paramsInRange hp,
    (takeExpiry_orderKept x { s with choices := n }).tableInOrder ht⟩

theorem settleLoop_rangeKept (due : State → List Expiry) : ∀ (n : Nat) {s : State}, ParamsInRange s → TableInOrder s →
    RangeKept s (settleLoop due n s)
  | 0, s, _, _ => transmitAll_rangeKept s
  | n + 1, s, hp, ht => by
    unfold settleLoop
    dsimp only
    split
    · exact transmitAll_rangeKept s
    · next x _ =>
      obtain ⟨taken, params, table⟩ := takeExpiry_of_choice ((transmitAll_limitKept s).paramsInRange hp)
        ((transmitAll_orderKept s).tableInOrder ht) x _
      exact (transmitAll_rangeKept s).trans (taken.trans (settleLoop_rangeKept due n params table))

theorem takeCharacter_rangeKept {s : State} (hp : ParamsInRange s) (l : LinkId) (b : Byte) :
    RangeKept s (takeCharacter l b s) := by
  unfold takeCharacter
  refine (modLink_rangeKept s l fun x => { x with awaitHigh := false }).trans ?_
  dsimp only
  split
  · split
    · exact modLink_rangeKept ..
    · exact .refl _
  · exact modLink_rangeKept ..
  · exact modLink_rangeKept ..
  · unfold takeCheck
    split
    · exact (modLink_rangeKept ..).trans (submit_rangeKept (by exact hp) ..)
    · exact modLink_rangeKept ..

theorem endMessage_rangeKept {s : State} (hp : ParamsInRange s) (l : LinkId) (m : Message) :
    RangeKept s (endMessage l m s) := by
  unfold endMessage
  refine (modLink_rangeKept s l fun x => { x with tx := none }).trans ?_
  split
  · exact (modLink_rangeKept ..).trans (executeOldest_rangeKept (by exact hp) l)
  · exact .refl _

/-! ### The commands -/

/-- Reset leaves no record and no entry (R180). -/
theorem holdReset_rangeKept (s : State) : RangeKept s (holdReset s) := by
  have free : ∀ i r, (holdReset s).rec? i = some r → False := fun i r hr =>
    nomatch (reset_rec? i).symm.trans hr
  exact ⟨fun _ i r hr => (free i r hr).elim, fun _ => ⟨fun i r hr => (free i r hr).elim, nofun⟩⟩

/-- A command that runs only while reset is not held keeps what its effect keeps. -/
theorem whenRunning_rangeKept {s t : State} {f : State → State} (h : whenRunning s f = .next t)
    (hf : RangeKept s (f s)) : RangeKept s t := by
  unfold whenRunning at h
  cases h
  split
  · exact .refl s
  · exact hf

/-- Every command keeps the ranges: what is due is taken first, and leaves the parameters as they were. -/
theorem exec_rangeKept {c : Instr} {s t : State} (hp : ParamsInRange s) (ht : TableInOrder s)
    (h : exec c s = .next t) : RangeKept s t := by
  have settled : ∀ {u}, (ParamsInRange (settle s) → RangeKept (settle s) u) → RangeKept s u := fun hu =>
    (settleLoop_rangeKept _ _ hp ht).trans (hu ((settle_limitKept s).paramsInRange hp))
  cases hq : requestOf c with
  | some p =>
    rw [exec_of_requestOf hq] at h
    exact whenRunning_rangeKept h (settled fun hp => submit_rangeKept hp ..)
  | none =>
    have heard : ∀ {l b}, whenRunning s (fun s => takeCharacter l b (settle s)) = .next t → RangeKept s t :=
      fun h => whenRunning_rangeKept h (settled fun hp => takeCharacter_rangeKept hp ..)
    have expiry : ∀ x, whenRunning s (fun s => takeExpiry x (transmitAll s)) = .next t → RangeKept s t :=
      fun x h => whenRunning_rangeKept h ((transmitAll_rangeKept s).trans (takeExpiry_rangeKept
        ((transmitAll_limitKept s).paramsInRange hp) ((transmitAll_orderKept s).tableInOrder ht) x))
    cases c
    case requestReceived => exact heard h
    case malformed => exact heard h
    case goodCharacter => exact heard h
    case badCharacter =>
      rw [exec, execBadCharacter] at h
      exact whenRunning_rangeKept h (modLink_rangeKept ..)
    case idleTimerExpiry =>
      rw [exec, execIdleTimerExpiry] at h
      exact whenRunning_rangeKept h (modLink_rangeKept ..)
    case lineBreak =>
      rw [exec, execLineBreak] at h
      exact whenRunning_rangeKept h (settled fun _ => modLink_rangeKept ..)
    case replyTransmission =>
      rw [exec, execReplyTransmission] at h
      refine whenRunning_rangeKept h ?_
      split
      · exact modLink_rangeKept ..
      · exact .refl s
    case prepareNotice =>
      rw [exec, execPrepareNotice] at h
      refine whenRunning_rangeKept h ?_
      split
      · exact beginPrepare_rangeKept ..
      · exact .refl s
    case moveNotice =>
      rw [exec, execMoveNotice] at h
      refine whenRunning_rangeKept h ?_
      split
      · exact beginMove_rangeKept ..
      · exact .refl s
    case framePlanNotice =>
      rw [exec, execFramePlanNotice] at h
      refine whenRunning_rangeKept h ?_
      split
      · exact beginPlan_rangeKept ..
      · exact .refl s
    case messageSent =>
      rw [exec, execMessageSent] at h
      refine whenRunning_rangeKept h (settled fun hp => ?_)
      dsimp only
      split
      · exact .refl _
      · exact (endMessage_rangeKept hp ..).trans (transmit_rangeKept ..)
    case frameBoundary =>
      rw [exec, execFrameBoundary] at h
      have advanced : RangeKept s (advanceClock (settleAll s)) := (settleLoop_rangeKept _ _ hp ht).trans ⟨id, id⟩
      have params : ParamsInRange (advanceClock (settleAll s)) := (settleAll_limitKept s).paramsInRange hp
      exact whenRunning_rangeKept h (advanced.trans (countTimers_rangeKept params))
    case serveLostExpiry i => exact expiry (.serveLost i) h
    case retainExpiry i => exact expiry (.retain i) h
    case candidateAgeExpiry i a => exact expiry (.candidateAge i a) h
    case prepareTimerExpiry e => exact expiry (.prepare e) h
    case moveTimerExpiry e => exact expiry (.move e) h
    case reset =>
      cases h
      exact holdReset_rangeKept s
    case resetRelease =>
      cases h
      split <;> exact ⟨id, id⟩
    case fsyncPulseEnd =>
      rw [exec, execFsyncPulseEnd] at h
      exact whenRunning_rangeKept h ⟨id, id⟩
    case setAirtimeParameter l tag p v => cases p <;> simp [requestOf] at hq
    all_goals simp [requestOf] at hq

/-- Settles O59: the front command is executed on the rest of the queue, and every command keeps the ranges. -/
theorem levelsAndCountsStayInRange : Obligations.LevelsAndCountsStayInRange := by
  intro s t hp ht h
  have kept : RangeKept s t := by
    unfold step at h
    split at h
    · cases h
      exact .refl s
    · next c rest _ => exact exec_rangeKept (s := { s with pending := rest }) hp ht h
  exact kept

end Sys2Proof.Machine
end

section
/-! LEVELS (R79, R80): its pairs one after another with their counts, and the class of a pair row by row. -/

namespace Sys2Proof.Machine

/-! ### The class of a pair (R80) -/

/-- A pair from the serving antenna (R80, row 2). -/
theorem classify_of_serving {s : State} {r : Record} {a : AntennaId} (hs : r.state ≠ .adrift)
    (hv : r.serving.map Serving.antenna = some a) (level : Byte) : classify s r a level = .servingReport :=
  if_pos ⟨hs, hv⟩

section
variable {s : State} {r : Record} {a : AntennaId}
  (helse : r.state = .adrift ∨ r.serving.map Serving.antenna ≠ some a)
include helse

/-- A pair from the target of a started handoff (R80, rows 3 and 4). -/
theorem classify_of_started {x : Entry} (hx : s.entryOf? r = some x) (ht : x.target = a) (hp : x.phase ≠ .queued)
    (level : Byte) : classify s r a level = if x.phase = .preparing then .skipped else .arrival x.num := by
  have started : startedToward s r a = some x := by simp [startedToward, hx, hp, ht]
  rw [classify, if_neg (by tauto), started]

/-- A pair from another antenna (R80, rows 5 to 9). -/
theorem classify_of_unstarted (hx : ∀ x, s.entryOf? r = some x → x.target = a → x.phase = .queued) (level : Byte) :
    classify s r a level =
      if (s.ant a).state = .draining ∨ (s.ant a).state = .closed then .skipped
      else if r.state ≠ .adrift then .candidateReport
      else if (s.entryOf? r).isSome then .candidateReport
      else if reachesLoss s.params level then .readmission
      else .candidateReport := by
  have unstarted : startedToward s r a = none := by
    unfold startedToward
    cases he : s.entryOf? r with
    | none => rfl
    | some x => exact if_neg fun ⟨hp, ht⟩ => hp (hx x he ht)
  rw [classify, if_neg (by tauto), unstarted]

/-- A pair from the target of a PREPARING handoff is skipped, and so is one from a DRAINING or CLOSED antenna that is
not the target of a MOVING one (R80, rows 3 and 5). -/
theorem classify_of_skipped
    (hskip : (∃ x, s.entryOf? r = some x ∧ x.target = a ∧ x.phase = .preparing) ∨
      (((s.ant a).state = .draining ∨ (s.ant a).state = .closed) ∧
        ∀ x, s.entryOf? r = some x → x.target = a → x.phase ≠ .moving)) (level : Byte) :
    classify s r a level = .skipped := by
  by_cases hprep : ∃ x, s.entryOf? r = some x ∧ x.target = a ∧ x.phase = .preparing
  · obtain ⟨x, hx, ht, hp⟩ := hprep
    rw [classify_of_started helse hx ht (by simp [hp]), if_pos hp]
  · obtain ⟨hstate, hmove⟩ := hskip.resolve_left hprep
    rw [classify_of_unstarted helse, if_pos hstate]
    intro x hx ht
    cases hp : x.phase with
    | queued => rfl
    | preparing => exact absurd ⟨x, hx, ht, hp⟩ hprep
    | moving => exact absurd hp (hmove x hx ht)

end

/-! ### The pairs in their order (R79) -/

theorem applyPair_of_unknown {s : State} {p : HeadsetId × Byte} (hf : s.findHeadset p.1 = none) (a : AntennaId) :
    applyPair a p s = (s, false) := by
  simp only [applyPair, hf]

theorem applyPair_of_skipped {s : State} {h : HeadsetId} {level : Byte} {a : AntennaId} {i : RosterIx} {r : Record}
    (hf : s.findHeadset h = some i) (hr : s.rec? i = some r) (hc : classify s r a level = .skipped) :
    applyPair a (h, level) s = (s, false) := by
  simp only [applyPair, hf, hr, hc]

/-- One pair applied to the state that those before it left, and counted (R79). -/
def countPair (a : AntennaId) (u : State × Nat) (p : HeadsetId × Byte) : State × Nat :=
  ((applyPair a p u.1).1, if (applyPair a p u.1).2 = true then u.2 + 1 else u.2)

/-- Counting from the first pair on gives the count of those applied. -/
theorem foldl_countPair (a : AntennaId) : ∀ (pairs : List (HeadsetId × Byte)) (s : State) (n : Nat),
    pairs.foldl (countPair a) (s, n) = ((applyPairs a pairs s).1, (applyPairs a pairs s).2 + n)
  | [], s, n => by simp [applyPairs]
  | p :: rest, s, n => by
    rw [List.foldl_cons, countPair, foldl_countPair a rest]
    simp only [applyPairs]
    split
    · rw [Nat.add_right_comm]; rfl
    · rfl

/-- An accepted LEVELS request applies its pairs and replies with their counts (R78, R79, R166). -/
theorem doLevels_of_accepted {l : LinkId} {a : AntennaId} {pairs : List (HeadsetId × Byte)} {s : State}
    (ho : s.owner a = some l) (hne : pairs ≠ []) (hlen : pairs.length ≤ 24)
    (hv : ∀ p ∈ pairs, validHeadset p.1 = true) :
    doLevels l (byteOf a.val) pairs s =
      { state := (applyPairs a pairs s).1, status := .ok
        fields := [byteOf (applyPairs a pairs s).2, byteOf (pairs.length - (applyPairs a pairs s).2)] } := by
  have hfields : levelsFields (byteOf a.val) pairs = some a := by
    rw [levelsFields, if_neg, antennaOf?_byteOf]
    simp only [List.length_eq_zero_iff, Config.maxPairs, not_or, not_lt, Bool.not_eq_false, List.all_eq_true]
    exact ⟨hne, hlen, hv⟩
  simp only [doLevels, hfields, ho, ne_eq, not_true_eq_false, if_false]

/-- Settles O13: the pairs by counting from the first on, and the class by the first row that matches. -/
theorem pairsAreClassified : Obligations.PairsAreClassified := by
  refine ⟨fun s l tag a pairs hq ho hne hlen hv => ?pairs, fun s l tag a h level hq ho hvalid hskip => ?skipped,
    fun s a p hf => applyPair_of_unknown hf a,
    fun s r a level => ⟨fun hs hv => classify_of_serving hs hv level, fun helse =>
      ⟨fun x hx ht hp => ?preparing, fun x hx ht hp => ?moving, fun hqueued => ⟨fun hstate => ?closed, fun hd hc =>
        ⟨fun hs => ?seated, fun hs he hl => ?readmitted, fun hs he hl => ?weak, fun hs he => ?held⟩⟩⟩⟩⟩
  case pairs =>
    intro done
    have counted : done = applyPairs a pairs s := foldl_countPair a pairs s 0
    rw [counted]
    exact request_of_perform hq tag (.levels (byteOf a.val) pairs) 0x0A rfl (doLevels_of_accepted ho hne hlen hv)
  case skipped =>
    have pair : applyPair a (h, level) s = (s, false) := by
      rcases hskip with hf | ⟨i, r, hf, hr, helse, hrow⟩
      · exact applyPair_of_unknown hf a
      · exact applyPair_of_skipped hf hr (classify_of_skipped helse hrow level)
    exact request_of_perform hq tag (.levels (byteOf a.val) [(h, level)]) 0x0A rfl (doLevels_one_skipped hvalid ho pair)
  case preparing => rw [classify_of_started helse hx ht (by simp [hp]), if_pos hp]
  case moving => rw [classify_of_started helse hx ht (by simp [hp]), if_neg (by simp [hp])]
  case closed => rw [classify_of_unstarted helse hqueued, if_pos hstate]
  all_goals rw [classify_of_unstarted helse hqueued, if_neg (by tauto)]
  case seated => rw [if_pos hs]
  case readmitted => simp [hs, he, reachesLoss, hl]
  case weak => simp [hs, he, reachesLoss, hl]
  case held => simp [hs, Option.isSome_iff_ne_none, he]

end Sys2Proof.Machine
end

section
/-! Serving reports (R83, R86): the dwell step and the evaluation that end one, what the abort of a bounce-back and its
depth release leave for them to judge, and the report as a whole. -/

namespace Sys2Proof.Machine

/-! ### The dwell step and the evaluation (R83, R102, R104) -/

theorem servedDraining_eq (s : State) {r : Record} {a : AntennaId} (hv : r.serving.map Serving.antenna = some a) :
    servedDraining s r = decide ((s.ant a).state = .draining) := by
  obtain ⟨v, hsv, rfl⟩ := Option.map_eq_some_iff.1 hv
  simp only [servedDraining, hsv]
  rfl

theorem underDrain_eq (s : State) {r : Record} {a : AntennaId} (hv : r.serving.map Serving.antenna = some a) :
    s.underDrain r = decide ((s.ant a).state = .draining) := by
  obtain ⟨v, hsv, rfl⟩ := Option.map_eq_some_iff.1 hv
  simp only [State.underDrain, hsv]

/-- A candidate after the dwell step of a serving update, under some terms and with some target candidate (R102). -/
def Candidate.judged (p : Params) (drain weak : Bool) (f : Nat) (target : Option AntennaId) (c : Candidate) :
    Candidate :=
  if c.blocked = false ∧ target ≠ some c.antenna ∧ levelSuits p drain weak f c.f16 = false then { c with dwell := 0 }
  else c

/-- An evaluation is run only for a SETTLED record (R104). -/
theorem evaluate_of_not_settled {s : State} {i : RosterIx} {r : Record} (hr : s.rec? i = some r)
    (hs : r.state ≠ .settled) (waive : Bool) : evaluate waive i s = s := by
  simp [evaluate, hr, hs]

section
variable {s : State} {i : RosterIx} {r : Record} {a : AntennaId} (hr : s.rec? i = some r)
  (hv : r.serving.map Serving.antenna = some a)
include hr hv

/-- The dwell step judges every candidate under the record's terms (R99, R102). -/
theorem servingDwell_eq :
    servingDwell i s = s.setRec i (some { r with
      candidates := r.candidates.map
        (.judged s.params (decide ((s.ant a).state = .draining)) r.weak r.f16s (s.heldTarget r)) }) := by
  have step : ∀ c : Candidate,
      (if !c.blocked && s.targetOf? r != some c.antenna && !qualifies s r c then { c with dwell := 0 } else c) =
        c.judged s.params (decide ((s.ant a).state = .draining)) r.weak r.f16s (s.heldTarget r) := fun c => by
    rw [Candidate.judged, qualifies_eq, underDrain_eq s hv, targetOf?_eq]
    simp [and_assoc]
  unfold servingDwell
  simp only [hr, State.modRec_of_some hr, step]

/-- The evaluation that ends a serving report, for a SETTLED record that is WEAK or under drain (R83, R86). -/
theorem servingEvaluation_eq :
    servingEvaluation i s =
      if r.state = .settled ∧ (r.weak = true ∨ decide ((s.ant a).state = .draining) = true) then evaluate false i s
      else s := by
  simp only [servingEvaluation, hr, servedDraining_eq s hv]

/-- For a record that is not SETTLED the evaluation changes nothing, so its state need not be asked (R104). -/
theorem servingEvaluation_eq_of_any :
    servingEvaluation i s =
      if r.weak = true ∨ decide ((s.ant a).state = .draining) = true then evaluate false i s else s := by
  rw [servingEvaluation_eq hr hv]
  by_cases hs : r.state = .settled
  · simp only [hs, true_and]
  · rw [if_neg (fun h => hs h.1), evaluate_of_not_settled hr hs, ite_self]

end

/-! ### What an abort and a depth release leave to judge (R86, R111, R130) -/

/-- The record's filtered level, WEAK and serving antenna, and that it holds no handoff entry. -/
def Record.Freed (f : Nat) (weak : Bool) (a : AntennaId) (r : Record) : Prop :=
  r.f16s = f ∧ r.weak = weak ∧ r.serving.map Serving.antenna = some a ∧ r.handoff = none

/-- The record at an index is there with this level, WEAK and serving antenna, and holds no entry. -/
def State.FreedAt (s : State) (i : RosterIx) (f : Nat) (weak : Bool) (a : AntennaId) : Prop :=
  ∃ q, s.rec? i = some q ∧ q.Freed f weak a

section
variable {s : State} {i : RosterIx} {f : Nat} {weak : Bool} {a : AntennaId}

theorem State.FreedAt.of_kept {t : State} (h : Kept s t) (hs : s.FreedAt i f weak a) : t.FreedAt i f weak a := by
  obtain ⟨r, hr, hf, hw, hv, hh⟩ := hs
  obtain ⟨q, hq, hface⟩ := h.forth hr
  obtain ⟨-, hf16, hweak, hnone, -, -, -, -, hserving⟩ := face_fields hface
  exact ⟨q, hq, hf16.trans hf, hweak.trans hw, hserving.trans hv, hnone.trans hh⟩

/-- A record written that keeps what is judged. -/
theorem State.FreedAt.of_setRec {j : RosterIx} {r q : Record} (hr : s.rec? j = some r)
    (hq : r.Freed f weak a → q.Freed f weak a) (hs : s.FreedAt i f weak a) :
    (s.setRec j (some q)).FreedAt i f weak a := by
  obtain ⟨p, hp, hfreed⟩ := hs
  by_cases hij : j = i
  · subst hij
    obtain rfl := Option.some.inj (hr.symm.trans hp)
    exact ⟨q, State.rec?_setRec_self .., hq hfreed⟩
  · exact ⟨p, (State.rec?_setRec_ne s _ hij).trans hp, hfreed⟩

/-- A start, whether it succeeds or fails, gives its headset no other level and no entry that it did not refer to
(R110). -/
theorem State.FreedAt.of_startEntry (hs : s.FreedAt i f weak a) (e : EntryNo) :
    (startEntry e s).FreedAt i f weak a := by
  cases he : s.entry? e with
  | none => simpa [startEntry, he] using hs
  | some x =>
    obtain rfl := State.entry?_num he
    cases hr : s.rec? x.headset with
    | none =>
      simp only [startEntry, he, hr]
      rw [State.freeEntry_of_some he, State.modRec_of_none (by exact hr)]
      exact hs
    | some r =>
      have failed : ∀ b, (s.startFailed x r b).FreedAt i f weak a := fun b =>
        .of_kept (keyApplied_kept ..) (.of_setRec (r := r) hr (fun ⟨hf, hw, hv, _⟩ => ⟨hf, hw, hv, rfl⟩) hs)
      rw [startEntry_eq he hr]
      split
      · exact failed _
      · split
        · exact failed _
        · exact .of_setRec (r := r) hr id hs

theorem State.FreedAt.of_depthReleaseLoop (k : LinkId) : ∀ (n : Nat) {s : State}, s.FreedAt i f weak a →
    (depthReleaseLoop k n s).FreedAt i f weak a
  | 0, _, hs => hs
  | n + 1, s, hs => by
    unfold depthReleaseLoop
    split
    · split
      · exact hs
      · exact State.FreedAt.of_depthReleaseLoop k n (hs.of_startEntry _)
    · exact hs

theorem State.FreedAt.of_depthReleaseFor (hs : s.FreedAt i f weak a) (k : Option LinkId) :
    (depthReleaseFor k s).FreedAt i f weak a := by
  cases k with
  | none => exact hs
  | some k => exact hs.of_depthReleaseLoop k _

end

theorem depthReleaseFor_antState (k : Option LinkId) (s : State) (a : AntennaId) :
    ((depthReleaseFor k s).ant a).state = (s.ant a).state := by
  cases k with
  | none => rfl
  | some k => exact depthReleaseLoop_antState k a _ s

/-- An abort with return leaves its headset served where it was, at its level, without an entry (R130). -/
theorem recalled_freedAt {s : State} {x : Entry} {r : Record} {v : Serving} (hr : s.rec? x.headset = some r)
    (hv : r.serving = some v) (drop : Bool) :
    (s.recalled x drop).FreedAt x.headset r.f16s r.weak v.antenna := by
  obtain ⟨t, hface, htorn⟩ := s.torn_eq x drop
  have hq := hface x.headset
  rw [hr, Option.map_some, Option.map_eq_some_iff] at hq
  obtain ⟨q, hq, hqr⟩ := hq
  obtain ⟨-, hf16, hweak, -, -, -, -, -, hserving⟩ := face_fields hqr
  rw [hv, Option.map_some] at hserving
  have unlinked : (s.torn x drop).rec? x.headset = some (q.unlinked x) := by
    rw [htorn, State.rec?_modRec_self]
    exact congrArg (Option.map _) hq
  obtain ⟨w, hw, hwa⟩ := Option.map_eq_some_iff.1 hserving
  have served : ((s.torn x drop).rec? x.headset).bind Record.serving = some w := by
    rw [unlinked]
    exact hw
  have returned : ((s.torn x drop).modRec x.headset fun r =>
      { r with state := .settled, serveLost := some Timer.start }).FreedAt x.headset r.f16s r.weak v.antenna := by
    rw [State.modRec_of_some unlinked]
    exact ⟨_, State.rec?_setRec_self .., hf16, hweak, hserving, rfl⟩
  unfold State.recalled
  dsimp only
  rw [served]
  refine .of_kept (keyApplied_kept ..) ?_
  split
  · exact returned
  · exact returned

/-- An abort with return changes the state of no antenna but the target's (R36, R130). -/
theorem recalled_antState (s : State) (x : Entry) (drop : Bool) {b : AntennaId} (hb : b ≠ x.target) :
    ((s.recalled x drop).ant b).state = (s.ant b).state := by
  have torn : ((s.torn x drop).ant b).state = (s.ant b).state := by
    unfold State.torn
    rw [State.modRec_ant]
    split
    · split
      · rfl
      · exact ((seatReleased_kept ..).2.1 b).2 hb
    · rfl
  have due : ∀ (u : State) (c : AntennaId), ((u.markDue c).ant b).state = (u.ant b).state := fun u c =>
    ((modAnt_kept (s := u) (a := c) (f := fun x => { x with planDue := true }) ⟨rfl, rfl⟩).2.1 b).1
  unfold State.recalled
  dsimp only
  split
  · exact torn
  · rw [((keyApplied_kept ..).2.1 b).1]
    split
    · rw [due, State.modRec_ant, torn]
    · rw [State.modRec_ant, torn]

/-! ### The report (R83, R86) -/

theorem bounceBack_iff {s : State} {x : Entry} {level : Byte} :
    bounceBack s x level = true ↔ ∃ switch, x.switchFrame = some switch ∧
      2 ≤ (s.frameNumber - switch + 2).toNat ∧ s.params.lossLevel ≤ level.toNat := by
  cases hx : x.switchFrame with
  | none => simp [bounceBack, hx]
  | some switch => simp [bounceBack, hx, switchBegun, reachesLoss]

/-- The record with F16S filtered with a level, and WEAK assessed (R83, steps 1 and 3; R86, step 1). -/
def Record.updated (p : Params) (level : Byte) (r : Record) : Record :=
  { r with
    f16s := filterUpdate p.filterWeight r.f16s level
    weak := weakAfter p (filterUpdate p.filterWeight r.f16s level) r.weak }

section
variable {s : State} {i : RosterIx} {r : Record} {level : Byte} (hr : s.rec? i = some r)
include hr

theorem servingUpdate_eq (level : Byte) : servingUpdate i level s = s.setRec i (some (r.updated s.params level)) :=
  State.modRec_of_some hr _

/-- A serving report that is no bounce-back: the record is written, its serve-lost timer restarted unless its entry is
MOVING, then the dwell step and the evaluation follow (R83, R86). -/
theorem servingReport_of_no_bounce
    (hnone : ∀ x, s.entryOf? r = some x → x.phase = .moving → bounceBack s x level = false) :
    servingReport i level s = servingEvaluation i (servingDwell i (s.setRec i (some { r.updated s.params level with
      serveLost := if (s.entryOf? r).any (fun x => x.phase == .moving) = true then r.serveLost
        else some { count := 0, due := false } }))) := by
  have restarted : (servingUpdate i level s).modRec i (fun q => { q with serveLost := some Timer.start }) =
      s.setRec i (some { r.updated s.params level with serveLost := some Timer.start }) := by
    rw [servingUpdate_eq hr, State.modRec_of_some (State.rec?_setRec_self ..), State.setRec_setRec]
  unfold servingReport
  simp only [hr]
  cases hx : s.entryOf? r with
  | none =>
    dsimp only
    rw [restarted]
    rfl
  | some x =>
    dsimp only
    by_cases hp : x.phase = .moving
    · rw [if_pos hp, hnone x hx hp, servingUpdate_eq hr]
      simp [hp, Record.updated]
    · rw [if_neg hp, restarted]
      simp [hp, Timer.start]

/-- A bounce-back: the abort with return and its depth release stand between the update and the dwell step (R86, R111,
R130). -/
theorem servingReport_of_bounce {x : Entry} (hx : s.entryOf? r = some x) (hp : x.phase = .moving)
    (hb : bounceBack s x level = true) :
    servingReport i level s =
      servingEvaluation i (servingDwell i (abortAndRelease x.num (servingUpdate i level s))) := by
  unfold servingReport
  simp only [hr, hx, hp, hb, if_true]

end

/-- The dwell step and the evaluation of a record without an entry, whatever its state (R86, steps 3 and 4). -/
theorem servingSteps_of_freed {u : State} {i : RosterIx} {f : Nat} {weak : Bool} {a : AntennaId}
    (hu : u.FreedAt i f weak a) :
    servingEvaluation i (servingDwell i u) =
      let t := u.modRec i fun q => { q with
        candidates := q.candidates.map (.judged u.params (decide ((u.ant a).state = .draining)) weak f none) }
      if weak = true ∨ decide ((u.ant a).state = .draining) = true then evaluate false i t else t := by
  obtain ⟨q, hq, rfl, rfl, hv, hh⟩ := hu
  have untargeted : u.heldTarget q = none := by simp [State.heldTarget, entryOf?_of_none hh]
  rw [servingDwell_eq hq hv, untargeted, servingEvaluation_eq_of_any (State.rec?_setRec_self ..) (by exact hv),
    State.modRec_of_some hq]
  rfl

/-- A bounce-back judges the record that the abort and its depth release leave by the level it reported, under the terms
of its serving antenna (R86, R99). -/
theorem servingReport_bounced {s : State} {x : Entry} {r : Record} {v : Serving} {level : Byte}
    (hr : s.rec? x.headset = some r) (hv : r.serving = some v) (he : s.entryOf? r = some x)
    (hx : s.entry? x.num = some x) (hp : x.phase = .moving) (hb : bounceBack s x level = true)
    (hne : v.antenna ≠ x.target) {u : State}
    (hu : depthReleaseFor (s.owner x.target)
      ((s.setRec x.headset (some (r.updated s.params level))).recalled x false) = u) :
    servingReport x.headset level s =
      let q := r.updated s.params level
      let drain := decide ((s.ant v.antenna).state = .draining)
      let t := u.modRec x.headset fun p => { p with
        candidates := p.candidates.map (.judged s.params drain q.weak q.f16s none) }
      if q.weak = true ∨ drain = true then evaluate false x.headset t else t := by
  have hrec := State.rec?_setRec_self s x.headset (some (r.updated s.params level))
  have aborted : abortAndRelease x.num (servingUpdate x.headset level s) = u := by
    rw [servingUpdate_eq hr, ← hu]
    exact abortAndRelease_eq (by exact hx) (by simp [hp])
  have freed : u.FreedAt x.headset (r.updated s.params level).f16s (r.updated s.params level).weak v.antenna :=
    hu ▸ (recalled_freedAt hrec (by exact hv) false).of_depthReleaseFor _
  have params : u.params = s.params := by
    rw [← aborted, (abortAndRelease_rest ..).params, servingUpdate_eq hr, State.setRec_params]
  have terms : (u.ant v.antenna).state = (s.ant v.antenna).state := by
    rw [← hu, depthReleaseFor_antState, recalled_antState _ _ _ hne, State.setRec_ant]
  rw [servingReport_of_bounce hr he hp hb, aborted, servingSteps_of_freed freed, params, terms]

/-! ### The abort written out (R130, R131) -/

/-- The state after an abort writes the record whole, so that what stood at its index does not bear on it. -/
theorem aborted_setRec (s : State) (x : Entry) (i : RosterIx) (r : Record) (v : Serving) (g : GroupIx) (n : SeatNo) :
    (s.setRec i (some r)).aborted x i r v g n = s.aborted x i r v g n := by
  have overwritten : ∀ t : State,
      ({ clearBlocked x.target (t.setRec i (some r)) with
        handoffs := s.handoffs.filter fun y => y.num != x.num } : State).setRec i (some (r.returned x.target)) =
      ({ clearBlocked x.target t with handoffs := s.handoffs.filter fun y => y.num != x.num } : State).setRec i
        (some (r.returned x.target)) := fun t => by
    rw [clearBlocked_setRec, setRec_withHandoffs, State.setRec_setRec]
  unfold State.aborted
  dsimp only
  split
  · exact overwritten ((s.modAnt x.target (Antenna.vacated s.params g n r.listen)).markDue v.antenna)
  · exact overwritten (s.modAnt x.target (Antenna.vacated s.params g n r.listen))

theorem aborted_owner (s : State) (x : Entry) (i : RosterIx) (r : Record) (v : Serving) (g : GroupIx) (n : SeatNo)
    (b : AntennaId) : (s.aborted x i r v g n).owner b = s.owner b := by
  have kept : ∀ (u : State) (c : AntennaId) (f : Antenna → Antenna), (∀ y, (f y).owner = y.owner) →
      (u.modAnt c f).owner b = u.owner b := fun u c f hf => by
    unfold State.owner
    rw [State.ant_modAnt]
    split
    · exact hf _
    · rfl
  have vacated := kept s x.target (Antenna.vacated s.params g n r.listen) fun _ => rfl
  unfold State.aborted
  dsimp only
  split
  · exact (kept _ v.antenna (fun y => { y with planDue := true }) fun _ => rfl).trans vacated
  · exact vacated

/-- Where no entry is QUEUED for the link, if there is one, the depth release for it starts nothing (R111). -/
theorem depthReleaseFor_of_none {k : Option LinkId} {s : State}
    (h : ∀ y ∈ s.handoffs, y.phase = .queued → s.owner y.target ≠ k) : depthReleaseFor k s = s := by
  cases k with
  | none => rfl
  | some k => exact depthRelease_of_none h

/-- Where nothing waits at the target and no entry is QUEUED for its owner, the abort and its depth release leave the
state written out, and a PENDING key applied to it (R74, R111, R130, R131). -/
theorem depthReleaseFor_recalled_of_empty {s : State} {x : Entry} {r : Record} {v : Serving} {g : GroupIx} {n : SeatNo}
    (hp : x.phase ≠ .queued) (hg : x.reserved = some (g, n)) (hv : r.serving = some v)
    (hempty : (s.ant x.target).queue = [])
    (hnone : ∀ y ∈ s.handoffs, y.phase = .queued → s.owner y.target ≠ s.owner x.target) :
    depthReleaseFor (s.owner x.target) ((s.setRec x.headset (some r)).recalled x false) =
      (s.aborted x x.headset r v g n).keyApplied x.headset := by
  rw [recalled_of_empty hp (State.rec?_setRec_self ..) hg hv (by exact hempty), aborted_setRec]
  refine depthReleaseFor_of_none fun y hy hq => ?_
  rw [(keyApplied_kept ..).1] at hy
  rw [((keyApplied_kept ..).2.1 y.target).2, aborted_owner]
  exact hnone y (List.mem_of_mem_filter hy) hq

/-! ### The request -/

/-- A pair from the serving antenna of a SETTLED or HANDING headset is a serving report (R80, row 2). -/
theorem exec_servingReport {s : State} {l : LinkId} {h : HeadsetId} {i : RosterIx} {r : Record} {v : Serving}
    (hq : Ready l s) (hvalid : validHeadset h = true) (hf : s.findHeadset h = some i) (hr : s.rec? i = some r)
    (hs : r.state ≠ .adrift) (hv : r.serving = some v) (ho : s.owner v.antenna = some l) (tag level : Byte) :
    exec (.levels l tag (byteOf v.antenna.val) [(h, level)]) s =
      .next ((servingReport i level s).replied l 0x0A tag .ok [1, 0]) := by
  refine request_of_perform hq tag (.levels (byteOf v.antenna.val) [(h, level)]) 0x0A rfl (doLevels_one hvalid ho ?_)
  simp only [applyPair, hf, hr, classify_of_serving hs (by rw [hv, Option.map_some])]

/-- Settles O10: without a bounce-back the record is written and judged; with one, the state that the abort and its
depth release leave is judged, and that state is then written out. -/
theorem servingReportsAreApplied : Obligations.ServingReportsAreApplied := by
  intro s l tag h level i r v hq hvalid hf hr hs hv ho f weak drain dwelt bounce
  rw [exec_servingReport hq hvalid hf hr hs hv ho]
  refine ⟨fun hno => ?held, fun x _ hh hx hi hp hb hne => ?bounced,
    fun x g n _ hh hx hi hp hg hb hne hempty hnone => ?written⟩
  case held =>
    intro moving t
    have hva : r.serving.map Serving.antenna = some v.antenna := by rw [hv, Option.map_some]
    rw [servingReport_of_no_bounce hr fun x hx hp => Bool.eq_false_iff.2 fun hb => hno x hx hp (bounceBack_iff.1 hb),
      servingDwell_eq (State.rec?_setRec_self ..) (by exact hva),
      servingEvaluation_eq (State.rec?_setRec_self ..) (by exact hva), State.setRec_setRec]
    rfl
  case bounced =>
    subst hi
    intro t
    rw [servingReport_bounced hr hv (entryOf?_of_some hh hx) hx hp (bounceBack_iff.2 hb) hne rfl]
    rfl
  case written =>
    subst hi
    intro t
    rw [servingReport_bounced hr hv (entryOf?_of_some hh hx) hx hp (bounceBack_iff.2 hb) hne
      (depthReleaseFor_recalled_of_empty (by simp [hp]) hg (by exact hv) hempty hnone)]
    rfl

end Sys2Proof.Machine
end

section
/-! SET of HANDOFF_DEPTH (R113, R175, R177): the depths it is checked against, and the depth releases that follow a
raise. -/

namespace Sys2Proof.Machine

/-! ### Storing a depth (R113, R177) -/

/-- The state with a value stored as HANDOFF_DEPTH. -/
def State.withDepth (s : State) (v : Nat) : State := { s with params := { s.params with handoffDepth := v } }

/-- What the checks of SET ask of the links: some link is deeper than a value (R177). -/
theorem anyDeeper_iff {s : State} {v : Nat} :
    (linkOrder.any fun k => decide (v < s.depth k)) = true ↔ ∃ k, v < s.depth k := by
  simp [linkOrder, mem_ascending]

/-- A new value below some link's depth is the wrong state (R177). -/
theorem storeParam_of_deeper {s : State} {v : Nat} (hv : s.params.handoffDepth ≠ v) (h : ∃ k, v < s.depth k) :
    storeParam .handoffDepth v s = .error .wrongState := by
  simp [storeParam, Params.read, Param.isAirtime, hv, anyDeeper_iff.2 h]

/-- A value that no link is deeper than is stored, and a raise is followed by the depth releases (R113, R177). -/
theorem storeParam_of_not_deeper {s : State} {v : Nat} (h : ∀ k, s.depth k ≤ v) :
    storeParam .handoffDepth v s =
      .ok (if s.params.handoffDepth < v then depthReleaseAll (s.withDepth v) else s.withDepth v) := by
  by_cases hv : s.params.handoffDepth = v
  · have same : s.withDepth v = s := by rw [State.withDepth, ← hv]
    rw [storeParam_of_same (q := .handoffDepth) hv, if_neg (not_lt.2 hv.ge), same]
  · have none_deeper : ¬ ∃ k, v < s.depth k := by simpa using h
    rw [← anyDeeper_iff, Bool.not_eq_true] at none_deeper
    simp only [storeParam, Params.read, Params.write, Param.isAirtime, hv, none_deeper, State.withDepth]
    by_cases hraise : s.params.handoffDepth < v <;> simp [hraise]

/-! ### The request (R171, R175) -/

/-- The row leaves what SET of parameter 11 answers. -/
theorem exec_setHandoffDepth {l : LinkId} {s t : State} {value : BitVec 16} {status : Status} {fields : List Byte}
    (hq : Ready l s) (tag : Byte)
    (h : setParam l 11 .handoffDepth value.toNat s = { state := t, status := status, fields := fields }) :
    exec (.setHandoffDepth l tag value) s = .next (t.replied l 0x20 tag status fields) :=
  request_of_perform hq tag (.set 11 value) 0x20 rfl h

/-- Settles O32: the checks in their order; where none fails, the store and what follows a raise, of which nothing is
left where no entry is QUEUED. -/
theorem handoffDepthIsChecked : Obligations.HandoffDepthIsChecked := by
  intro s l tag value v hq hv
  obtain rfl : v = Param.handoffDepth.clamp value.toNat := hv
  have stored (hl : l = s.settingsLink) (hfit : ∀ k, s.depth k ≤ Param.handoffDepth.clamp value.toNat) :=
    exec_setHandoffDepth hq tag (setParam_of_ok hl (storeParam_of_not_deeper hfit) 11)
  refine ⟨fun hl => ?foreign, fun hl hne hdeep => ?deeper,
    fun hl hfit => ⟨fun hlow => ?lowered, fun hraise => ?raised⟩, fun hl hfit hnone => ?idle⟩
  case foreign => exact exec_setHandoffDepth hq tag (setParam_of_foreign hl ..)
  case deeper => exact exec_setHandoffDepth hq tag (setParam_of_error hl (storeParam_of_deeper (Ne.symm hne) hdeep) 11)
  case lowered =>
    rw [stored hl hfit, if_neg (not_lt.2 hlow)]
    rfl
  case raised =>
    rw [stored hl hfit, if_pos hraise, depthReleaseAll_eq]
    rfl
  case idle =>
    have nothing : depthReleaseAll (s.withDepth (Param.handoffDepth.clamp value.toNat)) = s.withDepth _ :=
      depthReleaseAll_of_none hnone
    rw [stored hl hfit, nothing, ite_self]
    rfl

end Sys2Proof.Machine
end

section
/-! Trigger evaluations (R99, R100, R104): which candidates suit a record, and the first of them as the target. -/

namespace Sys2Proof.Machine

/-! ### Eligible candidates (R95, R100) -/

/-- An antenna is not the target candidate where no started entry of the record is toward it (R95). -/
theorem targetOf?_ne_iff {s : State} {r : Record} {a : AntennaId} :
    s.targetOf? r ≠ some a ↔ ∀ x, s.entryOf? r = some x → x.phase ≠ .queued → x.target ≠ a := by
  unfold State.targetOf?
  cases s.entryOf? r with
  | none => simp
  | some x => by_cases hp : x.phase = .queued <;> simp [hp]

theorem eligible_iff {s : State} {r : Record} {c : Candidate} :
    eligible s r c = true ↔
      (s.ant c.antenna).state = .active ∧ c.blocked = false ∧
        ∀ x, s.entryOf? r = some x → x.phase ≠ .queued → x.target ≠ c.antenna := by
  rw [← targetOf?_ne_iff]
  simp [eligible, and_assoc]

/-! ### The terms (R99, R100) -/

theorem servedDraining_iff {s : State} {r : Record} :
    servedDraining s r = true ↔ ∃ v, r.serving = some v ∧ (s.ant v.antenna).state = .draining := by
  unfold servedDraining
  cases r.serving with
  | none => simp
  | some v => simp

/-- The level and the dwell that a record's terms ask of a candidate, term by term. -/
theorem qualifies_dwell_iff {s : State} {r : Record} {c : Candidate} {waive : Bool} :
    qualifies s r c = true ∧ (waive = true ∨ requiredDwell s.params (termsOf s r) ≤ c.dwell) ↔
      (servedDraining s r = true → s.params.lossLevel * 16 ≤ c.f16) ∧
      (¬ servedDraining s r = true → r.weak = true → r.f16s ≤ c.f16 ∧ s.params.lossLevel * 16 ≤ c.f16) ∧
      (¬ servedDraining s r = true → r.weak = false →
        r.f16s + s.params.margin * 16 ≤ c.f16 ∧ (waive = true ∨ s.params.dwell ≤ c.dwell)) ∧
      (waive = true ∨ 1 ≤ c.dwell ∨ (¬ servedDraining s r = true ∧ r.weak = false)) := by
  unfold qualifies
  cases hd : servedDraining s r with
  | true => simp [termsOf, hd, levelTest, requiredDwell]
  | false =>
    cases hw : r.weak with
    | true => simp [termsOf, hd, hw, levelTest, requiredDwell]
    | false => simp [termsOf, hd, hw, levelTest, requiredDwell]

/-! ### The evaluation (R104) -/

/-- A trigger evaluation may choose the candidate. -/
def State.suitable (s : State) (waive : Bool) (r : Record) (c : Candidate) : Bool :=
  eligible s r c && qualifies s r c && (waive || decide (requiredDwell s.params (termsOf s r) ≤ c.dwell))

theorem suitable_iff {s : State} {waive : Bool} {r : Record} {c : Candidate} :
    s.suitable waive r c = true ↔
      eligible s r c = true ∧ qualifies s r c = true ∧
        (waive = true ∨ requiredDwell s.params (termsOf s r) ≤ c.dwell) := by
  simp [State.suitable, and_assoc]

theorem evaluationTarget_eq (waive : Bool) (s : State) (r : Record) :
    evaluationTarget waive s r = (r.candidates.find? (s.suitable waive r)).map Candidate.antenna := by
  unfold evaluationTarget
  split
  next h => exact (congrArg (Option.map Candidate.antenna) h).symm
  next c h => exact (congrArg (Option.map Candidate.antenna) h).symm

section
variable {s : State} {i : RosterIx} {r : Record} (hr : s.rec? i = some r) {waive : Bool}
include hr

/-- The first suitable candidate is the target (R104). -/
theorem evaluate_of_first {before behind : List Candidate} {c : Candidate} (hl : r.candidates = before ++ c :: behind)
    (hbefore : ∀ d ∈ before, ¬ s.suitable waive r d = true) (hc : s.suitable waive r c = true) (hs : r.state = .settled)
    (hroom : s.handoffs.length < 16) : evaluate waive i s = trigger i c.antenna s := by
  have first : r.candidates.find? (s.suitable waive r) = some c := by
    rw [hl, List.find?_append, List.find?_eq_none.2 hbefore, Option.none_or, List.find?_cons_of_pos hc]
  have target : evaluationTarget waive s r = some c.antenna := by rw [evaluationTarget_eq, first, Option.map_some]
  simp [evaluate, hr, hs, Config.tableSize, hroom, target]

/-- Without a suitable candidate there is no target (R104). -/
theorem evaluate_of_none_suitable (h : ∀ c ∈ r.candidates, ¬ s.suitable waive r c = true) : evaluate waive i s = s := by
  have target : evaluationTarget waive s r = none := by
    rw [evaluationTarget_eq, List.find?_eq_none.2 h, Option.map_none]
  simp [evaluate, hr, target]

/-- With the table full nothing is evaluated (R104, R106). -/
theorem evaluate_of_full (h : 16 ≤ s.handoffs.length) : evaluate waive i s = s := by
  simp [evaluate, hr, Config.tableSize, not_lt.2 h]

end

/-- Settles O51: what the statement asks of a candidate is what the model searches the list for; then the search by its
outcome, and the two conditions under which it is not made. -/
theorem evaluationsTakeTheFirstSuitable : Obligations.EvaluationsTakeTheFirstSuitable := by
  intro s i r waive hr drain suits
  have suits_iff : ∀ c, suits c ↔ s.suitable waive r c = true := fun c => by
    rw [suitable_iff, eligible_iff, qualifies_dwell_iff, servedDraining_iff, and_assoc, and_assoc]
  simp only [suits_iff]
  refine ⟨fun before c behind hl hbefore hc hs hroom => evaluate_of_first hr hl hbefore hc hs hroom, ?_⟩
  rintro (hnone | hstate | hfull)
  · exact evaluate_of_none_suitable hr hnone
  · exact evaluate_of_not_settled hr hstate waive
  · exact evaluate_of_full hr hfull

end Sys2Proof.Machine
end

section
/-! READY, which moves a PREPARING entry (R117, R118). -/

namespace Sys2Proof.Machine

/-- READY and DECLINE of a PREPARING entry toward an antenna of the link act on it (R117). -/
theorem answerPrepare_of_preparing {s : State} {l : LinkId} {h : HeadsetId} {i : RosterIx} {r : Record} {x : Entry}
    (hvalid : validHeadset h = true) (hf : s.findHeadset h = some i) (hr : s.rec? i = some r)
    (hx : s.entryOf? r = some x) (hp : x.phase = .preparing) (ho : s.owner x.target = some l) (act : Entry → State) :
    answerPrepare l h s act = { state := act x, status := .ok, fields := [] } := by
  refine (withHeadset_of_known hvalid hf hr ..).trans ?_
  simp only [hx, hp, ho, and_self, if_true]

/-- The entry is written, then the record's serve-lost timer stopped (R118). -/
theorem moveEntry_eq {s : State} {x : Entry} {r : Record} (hr : s.rec? x.headset = some r) :
    moveEntry x s =
      (s.modEntry x.num fun y =>
        { y with prepTimer := none, phase := .moving, switchFrame := some (s.frameNumber + 2),
                 moveTimer := some Timer.start, moveDue := true }).setRec x.headset
        (some { r with serveLost := none }) :=
  State.modRec_of_some ((State.modEntry_rec? ..).trans hr) _

/-- Settles O7: the checks pass, and what READY then does is written out. -/
theorem readyMovesTheEntry : Obligations.ReadyMovesTheEntry := by
  rintro s l tag h i r x hq hvalid hf hr hh hx rfl hp ho
  have moves : doReady l h s = { state := moveEntry x s, status := .ok, fields := [] } :=
    answerPrepare_of_preparing hvalid hf hr (entryOf?_of_some hh hx) hp ho _
  rw [moveEntry_eq hr] at moves
  exact request_of_perform hq tag (.ready h) 0x10 rfl moves

end Sys2Proof.Machine
end

section
/-! What an idle transmitter begins, in R153's order of precedence, and what it then reads (R152 to R154). -/

namespace Sys2Proof.Machine

/-! ### What is due first -/

/-- The oldest entry whose PREPARE is due on a link (R153). -/
theorem prepareFor_of_oldest {s : State} {l : LinkId} {older newer : List Entry} {x : Entry}
    (hl : s.handoffs = older ++ x :: newer)
    (holder : ∀ y ∈ older, y.prepareDue = true → s.owner y.target ≠ some l) (hd : x.prepareDue = true)
    (ho : s.owner x.target = some l) : prepareFor s l = some x :=
  List.find?_eq_some_iff_append.2 ⟨by simp [hd, ho], older, newer, hl,
    fun y hy => by simpa [imp_iff_not_or] using holder y hy⟩

theorem prepareFor_eq_none {s : State} {l : LinkId} :
    prepareFor s l = none ↔ ∀ y ∈ s.handoffs, y.prepareDue = true → s.owner y.target ≠ some l := by
  simp [prepareFor]

/-- The oldest entry whose MOVE is due on a link (R153). -/
theorem moveFor_of_oldest {s : State} {l : LinkId} {older newer : List Entry} {x : Entry}
    (hl : s.handoffs = older ++ x :: newer)
    (holder : ∀ y ∈ older, y.moveDue = true → servingOwner s y ≠ some l) (hd : x.moveDue = true)
    (ho : servingOwner s x = some l) : moveFor s l = some x :=
  List.find?_eq_some_iff_append.2 ⟨by simp [hd, ho], older, newer, hl,
    fun y hy => by simpa [imp_iff_not_or] using holder y hy⟩

theorem moveFor_eq_none {s : State} {l : LinkId} :
    moveFor s l = none ↔ ∀ y ∈ s.handoffs, y.moveDue = true → servingOwner s y ≠ some l := by
  simp [moveFor]

/-- The lowest antenna whose plan is due on a link (R153). -/
theorem planFor_of_lowest {s : State} {l : LinkId} {a : AntennaId}
    (hlower : ∀ b, b < a → (s.ant b).planDue = true → s.owner b ≠ some l) (hd : (s.ant a).planDue = true)
    (ho : s.owner a = some l) : planFor s l = some a :=
  find?_ascending (by simp [hd, ho]) fun b hb => by simpa using hlower b hb

theorem servingOwner_of_served {s : State} {x : Entry} {r : Record} {v : Serving} (hr : s.rec? x.headset = some r)
    (hv : r.serving = some v) : servingOwner s x = s.owner v.antenna := by
  simp [servingOwner, hr, hv]

/-! ### What a notice reads (R115, R122, R170) -/

theorem prepareBody_of_reserved {s : State} {x : Entry} {r : Record} {g : GroupIx} {n : SeatNo} {seat : Seat}
    (hr : s.rec? x.headset = some r) (hg : x.reserved = some (g, n))
    (hs : ((s.ant x.target).plan.get g).seat n = some seat) :
    prepareBody s x =
      [0x40, 0] ++ bytes24 r.id ++ [byteOf x.target.val, byteOf g.val, byteOf n.val] ++ bytesOfNat16 seat.burst ++
        [byteOf r.profile.number] ++ bytes16 r.listen ++ [if r.key = .on then 1 else 0] := by
  simp only [prepareBody, hr, hg, hs, burstOf]

theorem moveBody_of_reserved {s : State} {x : Entry} {r : Record} {g : GroupIx} {n : SeatNo} {f : BitVec 16}
    (hr : s.rec? x.headset = some r) (hg : x.reserved = some (g, n)) (hf : x.switchFrame = some f) :
    moveBody s x =
      [0x41, 0] ++ bytes24 r.id ++ [byteOf x.source.val, byteOf x.target.val, byteOf g.val, byteOf n.val] ++
        bytes16 f ++ [0] := by
  simp only [moveBody, hr, hg, hf, Option.getD_some]

/-! ### The choice (R153) -/

section
variable {s : State} {l : LinkId} (hrun : s.resetHeld = false) (hidle : (s.link l).tx = none)
include hrun hidle

/-- A reply goes before every notice (R153). -/
theorem exec_replyTransmission_of_reply {body : List Byte} (hb : (s.link l).reply = some body) :
    exec (.replyTransmission l) s = .next (beginReply l body s) := by
  have choice : txChoice l s = some (.reply body) := by simp only [txChoice, hidle, hb]
  show execReplyTransmission l s = _
  rw [execReplyTransmission, whenRunning_of hrun, choice]

variable (hreply : (s.link l).reply = none)
include hreply

/-- With no reply to send, a PREPARE goes before every other notice (R153). -/
theorem exec_prepareNotice_of_due {x : Entry} (hx : prepareFor s l = some x) :
    exec (.prepareNotice l) s = .next (beginPrepare l x s) := by
  have choice : txChoice l s = some (.prepare x) := by simp only [txChoice, hidle, hreply, hx]
  show execPrepareNotice l s = _
  rw [execPrepareNotice, whenRunning_of hrun, choice]

variable (hprepare : prepareFor s l = none)
include hprepare

/-- With no PREPARE due either, a MOVE goes before a FRAME PLAN (R153). -/
theorem exec_moveNotice_of_due {x : Entry} (hx : moveFor s l = some x) :
    exec (.moveNotice l) s = .next (beginMove l x s) := by
  have choice : txChoice l s = some (.move x) := by simp only [txChoice, hidle, hreply, hprepare, hx]
  show execMoveNotice l s = _
  rw [execMoveNotice, whenRunning_of hrun, choice]

/-- With nothing else to send, a FRAME PLAN begins (R153). -/
theorem exec_framePlanNotice_of_due (hmove : moveFor s l = none) {a : AntennaId} (ha : planFor s l = some a) :
    exec (.framePlanNotice l) s = .next (beginPlan l a s) := by
  have choice : txChoice l s = some (.plan a) := by simp only [txChoice, hidle, hreply, hprepare, hmove, ha]
  show execFramePlanNotice l s = _
  rw [execFramePlanNotice, whenRunning_of hrun, choice]

end

/-- Settles O42: each row begins what is due first once nothing that goes before it is due, and reads it as it begins. -/
theorem transmittersBeginInOrder : Obligations.TransmittersBeginInOrder := by
  intro s l hrun hidle
  refine ⟨fun body hb => exec_replyTransmission_of_reply hrun hidle hb, fun hreply => ⟨?prepare, fun hprepare => ?rest⟩⟩
  case prepare =>
    intro older x newer r g n seat hl holder hd ho hr hg hs body
    have first := prepareFor_of_oldest hl holder hd ho
    rw [exec_prepareNotice_of_due hrun hidle hreply first, beginPrepare, prepareBody_of_reserved hr hg hs]
    rfl
  case rest =>
    rw [← prepareFor_eq_none] at hprepare
    refine ⟨?move, fun hmove a hlower hd ho => ?plan⟩
    case move =>
      intro older x newer r v g n f hl holder hd hr hv ho hg hf body
      have first := moveFor_of_oldest hl holder hd ((servingOwner_of_served hr hv).trans ho)
      rw [exec_moveNotice_of_due hrun hidle hreply hprepare first, beginMove, moveBody_of_reserved hr hg hf]
      rfl
    case plan =>
      exact exec_framePlanNotice_of_due hrun hidle hreply hprepare (moveFor_eq_none.2 hmove)
        (planFor_of_lowest hlower hd ho)

end Sys2Proof.Machine
end

section
/-! What a request leaves as it was beside the roster, the antennas, the handoff table and the sequence counter:
everything, but for SET, which writes the parameters (R175), TRIM, which writes T (R137), and CLEAR FLAGS, which writes
its link's flags (R155). -/

namespace Sys2Proof.Machine

/-! ### The requests of the antennas, the roster, the keys and the exchange -/

theorem withHeadset_rest {h : HeadsetId} {m : Status} {s : State} {act : RosterIx → Record → Answer}
    (ha : ∀ i r, SameRest s (act i r).state) : SameRest s (withHeadset h m s act).state := by
  unfold withHeadset
  split
  · split
    · exact .refl s
    · split
      · exact .refl s
      · exact ha ..
  · exact .refl s

theorem antennaRequest_rest {l : LinkId} {a : Byte} {s : State} {f g : AntennaId → Answer}
    (hf : ∀ a, SameRest s (f a).state) (hg : ∀ a, SameRest s (g a).state) :
    SameRest s (antennaRequest l a s f g).state := by
  unfold antennaRequest
  split
  · exact .refl s
  · split
    · exact hf _
    · split
      · exact .refl s
      · exact hg _

theorem answerPrepare_rest {l : LinkId} {h : HeadsetId} {s : State} {act : Entry → State}
    (ha : ∀ x, SameRest s (act x)) : SameRest s (answerPrepare l h s act).state := by
  refine withHeadset_rest fun i r => ?_
  split
  · exact .refl s
  · split
    · exact ha _
    · exact .refl s

theorem attachNew_rest (h : HeadsetId) (a : AntennaId) (c : Option Profile) (p : Profile) (set : ListenSet) (v : Byte)
    (s : State) : SameRest s (attachNew h a c p set v s).state := by
  unfold attachNew
  split
  · exact .refl s
  · split
    · exact .refl s
    · dsimp only
      split
      · refine (evictFor_rest a s).trans (.trans ?_ (depthReleaseFor_rest ..))
        split
        · exact ((setRec_rest ..).trans (takeSeat_rest ..)).trans (roomMade_rest ..)
        · exact (setRec_rest ..).trans (takeSeat_rest ..)
      · exact .refl s

theorem attachAdrift_rest (i : RosterIx) (r : Record) (a : AntennaId) (c : Option Profile) (p : Profile)
    (set : ListenSet) (v : Byte) (s : State) : SameRest s (attachAdrift i r a c p set v s).state := by
  unfold attachAdrift
  dsimp only
  split
  · exact (abortHeld_rest ..).trans (depthReleaseFor_rest ..)
  · exact (abortHeld_rest ..).trans ((takeSeat_rest ..).trans ((modRec_rest ..).trans
      ((applyPending_rest ..).trans (depthReleaseFor_rest ..))))

theorem doAttach_rest (l : LinkId) (h : HeadsetId) (a c : Byte) (set : ListenSet) (v : Byte) (s : State) :
    SameRest s (doAttach l h a c set v s).state := by
  unfold doAttach
  split
  · split
    · exact .refl s
    · split
      · split
        · exact .refl s
        · exact attachNew_rest ..
      · split
        · unfold attachSeated
          split <;> exact .refl s
        · split
          · exact .refl s
          · exact attachAdrift_rest ..
  · exact .refl s

theorem doLevels_rest (l : LinkId) (a : Byte) (pairs : List (HeadsetId × Byte)) (s : State) :
    SameRest s (doLevels l a pairs s).state := by
  unfold doLevels
  split
  · exact .refl s
  · split
    · exact .refl s
    · exact applyPairs_rest ..

theorem keyOn_rest (i : RosterIx) (r : Record) (s : State) : SameRest s (keyOn i r s).state := by
  unfold keyOn
  split
  · exact .refl s
  · split
    · exact keyPress_rest ..
    · exact setKey_rest ..

theorem doKey_rest (l : LinkId) (h : HeadsetId) (k : Byte) (s : State) : SameRest s (doKey l h k s).state := by
  unfold doKey
  split
  · exact .refl s
  · refine withHeadset_rest fun i r => ?_
    split
    · exact .refl s
    · split
      · exact keyOn_rest ..
      · exact releaseKey_rest ..

theorem doArrived_rest (l : LinkId) (h : HeadsetId) (a : Byte) (s : State) : SameRest s (doArrived l h a s).state := by
  unfold doArrived
  split
  · exact .refl s
  · refine withHeadset_rest fun i r => ?_
    unfold arrivedAt
    split
    · split
      · exact completeEntry_rest ..
      · exact .refl s
    · split
      · split <;> exact .refl s
      · exact .refl s

theorem doStay_rest (l : LinkId) (h : HeadsetId) (s : State) : SameRest s (doStay l h s).state := by
  refine withHeadset_rest fun i r => ?_
  split
  · exact .refl s
  · split
    · split
      · exact abortAndRelease_rest ..
      · exact .refl s
    · exact .refl s

/-! ### Every request but three -/

/-- The requests that write the settings, T or a link's flags: SET, TRIM and CLEAR FLAGS. -/
def Ask.writesRest : Ask → Bool
  | .set .. | .trim _ | .clearFlags _ => true
  | _ => false

theorem perform_rest {q : Request} (hq : q.ask.writesRest = false) (l : LinkId) (s : State) :
    SameRest s (perform l q s).state := by
  unfold perform
  cases h : q.ask with
  | antUp b => exact antennaRequest_rest (fun a => bringUp_rest l a s) fun _ => .refl s
  | antDown b =>
    refine antennaRequest_rest (fun _ => .refl s) fun a => ?_
    rw [antennaOk_state]
    exact (goDown_rest a s).trans (depthReleaseAll_rest _)
  | antDrain b =>
    refine antennaRequest_rest (fun _ => .refl s) fun a => ?_
    rw [antennaOk_state]
    split
    · exact startDrain_rest a s
    · exact .refl s
  | antReopen b =>
    refine antennaRequest_rest (fun _ => .refl s) fun a => ?_
    rw [antennaOk_state]
    split
    · exact .refl s
    · exact modAnt_rest ..
  | cardRestart => exact (SameRest.foldl _ (fun s a => goDown_rest a s) ..).trans (depthReleaseAll_rest _)
  | attach h b c set v => exact doAttach_rest ..
  | detach h => exact withHeadset_rest fun i r => detachRecord_rest ..
  | levels b pairs => exact doLevels_rest ..
  | listen h set => exact withHeadset_rest fun i r => changeListen_rest ..
  | key h k => exact doKey_rest ..
  | ready h => exact answerPrepare_rest fun x => moveEntry_rest ..
  | decline h => exact answerPrepare_rest fun x => abortAndRelease_rest ..
  | arrived h b => exact doArrived_rest ..
  | stay h => exact doStay_rest ..
  | queryHeadset h => exact withHeadset_rest fun i r => .refl s
  | queryAntenna b =>
    show SameRest s (doQueryAntenna b s).state
    unfold doQueryAntenna
    split <;> exact .refl s
  | queryClock => exact .refl s
  | get p =>
    show SameRest s (doGet p s).state
    unfold doGet
    split <;> exact .refl s
  | badLength => exact .refl s
  | unknown => exact .refl s
  | set p v => simp [h, Ask.writesRest] at hq
  | trim v => simp [h, Ask.writesRest] at hq
  | clearFlags m => simp [h, Ask.writesRest] at hq

end Sys2Proof.Machine
end

section
/-! The timebase, the straps, the parameters and the trim under every operation of the links and every command (R135 to
R138, R173, R178, R179): what each command can do to them is said once, for every command, and the two statements are
read from it. -/

namespace Sys2Proof.Machine

/-! ### What a request keeps, and what every other event keeps -/

/-- T lies in the range that TRIM stores (R137). -/
def TrimFits (s : State) : Prop := -2048 ≤ s.trim ∧ s.trim ≤ 2047

/-- The queue, the straps and the timebase: what no request writes. -/
def State.clock (s : State) : List Instr × Bool × LinkId × BitVec 2 × Int × BitVec 16 × Int :=
  (s.pending, s.resetHeld, s.settingsLink, s.rateCode, s.acc, s.frameNumber, s.frameLength)

theorem clock_eq_iff {s t : State} :
    t.clock = s.clock ↔ t.pending = s.pending ∧ t.resetHeld = s.resetHeld ∧ t.settingsLink = s.settingsLink ∧
      t.rateCode = s.rateCode ∧ t.acc = s.acc ∧ t.frameNumber = s.frameNumber ∧ t.frameLength = s.frameLength := by
  simp only [State.clock, Prod.mk.injEq]

/-- What the execution of a request keeps: the queue, the straps and the timebase, and T in its range. -/
structure RequestKept (s t : State) : Prop where
  clock : t.clock = s.clock
  trimFits : TrimFits s → TrimFits t

theorem RequestKept.trans {s t u : State} (h : RequestKept s t) (k : RequestKept t u) : RequestKept s u :=
  ⟨k.clock.trans h.clock, k.trimFits ∘ h.trimFits⟩

/-- What every event that executes no request keeps: the parameters and T as well. -/
structure SettingsKept (s t : State) : Prop where
  clock : t.clock = s.clock
  params : t.params = s.params
  trim : t.trim = s.trim

namespace SettingsKept

theorem refl (s : State) : SettingsKept s s := ⟨rfl, rfl, rfl⟩

theorem trans {s t u : State} (h : SettingsKept s t) (k : SettingsKept t u) : SettingsKept s u :=
  ⟨k.clock.trans h.clock, k.params.trans h.params, k.trim.trans h.trim⟩

theorem foldl {α : Type} (f : State → α → State) (hf : ∀ s a, SettingsKept s (f s a)) :
    ∀ (l : List α) (s : State), SettingsKept s (l.foldl f s)
  | [], s => .refl s
  | a :: rest, s => (hf s a).trans (foldl f hf rest (f s a))

theorem requestKept {s t : State} (h : SettingsKept s t) : RequestKept s t :=
  ⟨h.clock, fun hs => by unfold TrimFits; rwa [h.trim]⟩

end SettingsKept

theorem RequestKept.refl (s : State) : RequestKept s s := ⟨rfl, id⟩

theorem SameRest.settingsKept {s t : State} (h : SameRest s t) : SettingsKept s t :=
  ⟨clock_eq_iff.2 ⟨h.pending, h.resetHeld, h.settingsLink, h.rateCode, h.acc, h.frameNumber, h.frameLength⟩, h.params,
    h.trim⟩

theorem modLink_requestKept (s : State) (l : LinkId) (f : Link → Link) : RequestKept s (s.modLink l f) := ⟨rfl, id⟩

/-! ### SET and TRIM -/

/-- A value stored by SET writes no more than the parameters beside what its effects write (R63, R175). -/
theorem storeParam_requestKept {q : Param} {v : Nat} {s t : State} (h : storeParam q v s = .ok t) :
    RequestKept s t := by
  have stored : ∀ p : Params, RequestKept s { s with params := p } := fun _ => ⟨rfl, id⟩
  have effects : ∀ {p : Params} {u : State}, SameRest { s with params := p } u → RequestKept s u :=
    fun h => (stored _).trans h.settingsKept.requestKept
  unfold storeParam at h
  dsimp only at h
  split at h
  · exact Except.ok.inj h ▸ RequestKept.refl s
  · split at h
    · split at h
      · rw [← Except.ok.inj h]
        exact effects (.foldl _ (airtimeChanged_rest _) ..)
      · exact nomatch h
    · split at h
      · split at h
        · exact nomatch h
        · split at h <;> rw [← Except.ok.inj h]
          · exact effects (depthReleaseAll_rest _)
          · exact stored _
      · rw [← Except.ok.inj h]
        exact stored _

theorem doSet_requestKept (l : LinkId) (number : Byte) (value : BitVec 16) (s : State) :
    RequestKept s (doSet l number value s).state := by
  have same : RequestKept s s := .refl s
  unfold doSet
  split
  · exact same
  · unfold setParam
    split
    · exact same
    · split
      · exact same
      · next h => exact storeParam_requestKept h

/-- TRIM saturates to −2048 to 2047 (R137). -/
theorem saturateTrim_range (v : Int) : -2048 ≤ saturateTrim v ∧ saturateTrim v ≤ 2047 := by
  unfold saturateTrim
  omega

theorem doTrim_requestKept (l : LinkId) (value : BitVec 16) (s : State) : RequestKept s (doTrim l value s).state := by
  unfold doTrim
  split
  · exact .refl s
  · exact ⟨rfl, fun _ => saturateTrim_range _⟩

/-! ### The card links -/

theorem perform_requestKept (l : LinkId) (q : Request) (s : State) : RequestKept s (perform l q s).state := by
  cases hq : q.ask.writesRest with
  | false => exact (perform_rest hq l s).settingsKept.requestKept
  | true =>
    unfold perform
    cases h : q.ask with
    | set p v => exact doSet_requestKept ..
    | trim v => exact doTrim_requestKept ..
    | clearFlags m => exact ⟨rfl, id⟩
    | _ => simp [h, Ask.writesRest] at hq

theorem execute_requestKept (l : LinkId) (q : Request) (s : State) : RequestKept s (execute l q s) :=
  (perform_requestKept l q s).trans ⟨rfl, id⟩

theorem executeOldest_requestKept (l : LinkId) (s : State) : RequestKept s (executeOldest l s) := by
  unfold executeOldest
  split
  · exact (modLink_requestKept ..).trans (execute_requestKept ..)
  · exact .refl s

theorem submit_requestKept (l : LinkId) (q : Request) (s : State) : RequestKept s (submit l q s) := by
  unfold submit
  split
  · exact (modLink_requestKept ..).trans (executeOldest_requestKept ..)
  · exact modLink_requestKept ..

theorem takeCharacter_requestKept (l : LinkId) (b : Byte) (s : State) : RequestKept s (takeCharacter l b s) := by
  unfold takeCharacter
  refine (modLink_requestKept s l fun x => { x with awaitHigh := false }).trans ?_
  dsimp only
  split
  · split
    · exact modLink_requestKept ..
    · exact .refl _
  · exact modLink_requestKept ..
  · exact modLink_requestKept ..
  · unfold takeCheck
    split
    · exact (modLink_requestKept ..).trans (submit_requestKept ..)
    · exact modLink_requestKept ..

theorem endMessage_requestKept (l : LinkId) (m : Message) (s : State) : RequestKept s (endMessage l m s) := by
  unfold endMessage
  refine (modLink_requestKept s l fun x => { x with tx := none }).trans ?_
  split
  · exact (modLink_requestKept ..).trans (executeOldest_requestKept ..)
  · exact .refl _

theorem beginReply_settingsKept (l : LinkId) (body : List Byte) (s : State) : SettingsKept s (beginReply l body s) :=
  ⟨rfl, rfl, rfl⟩

theorem beginPrepare_settingsKept (l : LinkId) (x : Entry) (s : State) : SettingsKept s (beginPrepare l x s) :=
  ⟨rfl, rfl, rfl⟩

theorem beginMove_settingsKept (l : LinkId) (x : Entry) (s : State) : SettingsKept s (beginMove l x s) :=
  ⟨rfl, rfl, rfl⟩

theorem beginPlan_settingsKept (l : LinkId) (a : AntennaId) (s : State) : SettingsKept s (beginPlan l a s) :=
  ⟨rfl, rfl, rfl⟩

theorem transmit_settingsKept (l : LinkId) (s : State) : SettingsKept s (transmit l s) := by
  unfold transmit
  split
  · exact .refl s
  · exact beginReply_settingsKept ..
  · exact beginPrepare_settingsKept ..
  · exact beginMove_settingsKept ..
  · exact beginPlan_settingsKept ..

theorem transmitAll_settingsKept (s : State) : SettingsKept s (transmitAll s) :=
  .foldl _ (fun s l => transmit_settingsKept l s) ..

theorem settleLoop_settingsKept (due : State → List Expiry) : ∀ (n : Nat) (s : State),
    SettingsKept s (settleLoop due n s)
  | 0, s => transmitAll_settingsKept s
  | n + 1, s => by
    unfold settleLoop
    dsimp only
    split
    · exact transmitAll_settingsKept s
    · next x _ =>
      have chosen : ∀ k, SettingsKept (transmitAll s) { transmitAll s with choices := k } :=
        fun _ => ⟨rfl, rfl, rfl⟩
      exact (transmitAll_settingsKept s).trans ((chosen _).trans
        ((takeExpiry_rest x _).settingsKept.trans (settleLoop_settingsKept due n _)))

theorem settle_settingsKept (s : State) : SettingsKept s (settle s) := settleLoop_settingsKept ..

theorem settleAll_settingsKept (s : State) : SettingsKept s (settleAll s) := settleLoop_settingsKept ..

/-! ### What each command can do to the timebase, the straps and the settings -/

/-- From s to t a command has done to the timebase, the straps and the settings what its kind can do. -/
inductive Touches (s t : State) : Instr → Prop where
  /-- A command that can execute a request. -/
  | request {c : Instr} (can : canExecute c = true) (kept : RequestKept s t) : Touches s t c
  /-- A command that executes no request, or that finds reset held: it does no more than to the links, the roster, the
  antennas, the handoff table and FSYNC. -/
  | event {c : Instr} (kept : SettingsKept s t) : Touches s t c
  /-- A frame boundary, after what the last one left due (R135, R138). -/
  | boundary {u : State} (due : SettingsKept s u) (passed : t = countTimers (advanceClock u)) :
    Touches s t .frameBoundary
  /-- Reset (R180). -/
  | reset (held : t = holdReset s) : Touches s t .reset
  /-- The release of reset (R178, R179). -/
  | release {cfgsel ratesel : BitVec 2} (taken : t = releaseReset cfgsel ratesel s) :
    Touches s t (.resetRelease cfgsel ratesel)

/-- A command that runs only while reset is not held answers a next state, and changes nothing while it is held. -/
theorem whenRunning_touches {s : State} {f : State → State} {c : Instr} (hf : Touches s (f s) c) :
    ∃ t, whenRunning s f = .next t ∧ Touches s t c := by
  refine ⟨_, rfl, ?_⟩
  split
  · exact .event (.refl s)
  · exact hf

/-- A request row can execute a request. -/
theorem canExecute_of_requestOf {c : Instr} {p : LinkId × Request} (h : requestOf c = some p) :
    canExecute c = true := by
  unfold canExecute
  split
  · rfl
  · rfl
  · rfl
  · rfl
  · rw [h, Option.isSome_some]

/-- Every command answers a next state, and does to the timebase, the straps and the settings what its kind can do. -/
theorem exec_touches (c : Instr) (s : State) : ∃ t, exec c s = .next t ∧ Touches s t c := by
  cases hq : requestOf c with
  | some p =>
    rw [exec_of_requestOf hq]
    exact whenRunning_touches
      (.request (canExecute_of_requestOf hq) ((settle_settingsKept s).requestKept.trans (submit_requestKept ..)))
  | none =>
    have heard : ∀ {c : Instr} (l : LinkId) (b : Byte), canExecute c = true →
        ∃ t, whenRunning s (fun s => takeCharacter l b (settle s)) = .next t ∧ Touches s t c := fun l b can =>
      whenRunning_touches (.request can ((settle_settingsKept s).requestKept.trans (takeCharacter_requestKept l b _)))
    have expiry : ∀ {c : Instr} (x : Expiry),
        ∃ t, whenRunning s (fun s => takeExpiry x (transmitAll s)) = .next t ∧ Touches s t c := fun x =>
      whenRunning_touches (.event ((transmitAll_settingsKept s).trans (takeExpiry_rest x _).settingsKept))
    have event : ∀ {c : Instr} {f : State → State}, SettingsKept s (f s) →
        ∃ t, whenRunning s f = .next t ∧ Touches s t c := fun kept => whenRunning_touches (.event kept)
    cases c
    case requestReceived l b => exact heard l b rfl
    case malformed l b => exact heard l b rfl
    case goodCharacter l b => exact heard l b rfl
    case badCharacter =>
      rw [exec, execBadCharacter]
      exact event ⟨rfl, rfl, rfl⟩
    case idleTimerExpiry =>
      rw [exec, execIdleTimerExpiry]
      exact event ⟨rfl, rfl, rfl⟩
    case lineBreak =>
      rw [exec, execLineBreak]
      exact event ((settle_settingsKept s).trans ⟨rfl, rfl, rfl⟩)
    case replyTransmission =>
      rw [exec, execReplyTransmission]
      refine event ?_
      split
      · exact beginReply_settingsKept ..
      · exact .refl s
    case prepareNotice =>
      rw [exec, execPrepareNotice]
      refine event ?_
      split
      · exact beginPrepare_settingsKept ..
      · exact .refl s
    case moveNotice =>
      rw [exec, execMoveNotice]
      refine event ?_
      split
      · exact beginMove_settingsKept ..
      · exact .refl s
    case framePlanNotice =>
      rw [exec, execFramePlanNotice]
      refine event ?_
      split
      · exact beginPlan_settingsKept ..
      · exact .refl s
    case messageSent =>
      rw [exec, execMessageSent]
      refine whenRunning_touches (.request rfl ((settle_settingsKept s).requestKept.trans ?_))
      dsimp only
      split
      · exact .refl _
      · exact (endMessage_requestKept ..).trans (transmit_settingsKept ..).requestKept
    case frameBoundary =>
      rw [exec, execFrameBoundary]
      exact whenRunning_touches (.boundary (settleAll_settingsKept s) rfl)
    case serveLostExpiry i => exact expiry (.serveLost i)
    case retainExpiry i => exact expiry (.retain i)
    case candidateAgeExpiry i a => exact expiry (.candidateAge i a)
    case prepareTimerExpiry e => exact expiry (.prepare e)
    case moveTimerExpiry e => exact expiry (.move e)
    case reset => exact ⟨_, rfl, .reset rfl⟩
    case resetRelease x y =>
      refine ⟨_, rfl, ?_⟩
      split
      · exact .release rfl
      · exact .event (.refl s)
    case fsyncPulseEnd =>
      rw [exec, execFsyncPulseEnd]
      exact event ⟨rfl, rfl, rfl⟩
    case setAirtimeParameter l tag p v => cases p <;> simp [requestOf] at hq
    all_goals simp [requestOf] at hq

/-- Settles O53: read from what a command of each kind can do; a frame boundary, reset and its release write what is
theirs over a state that keeps the rest. That RESET keeps the queue is the model's choice (log entry 5). -/
theorem commandsKeepWhatIsNotTheirs : Obligations.CommandsKeepWhatIsNotTheirs := by
  intro c s
  obtain ⟨t, hexec, touches⟩ := exec_touches c s
  refine ⟨t, hexec, ?_⟩
  cases touches with
  | request can kept =>
    obtain ⟨pending, held, link, rate, acc, number, length⟩ := clock_eq_iff.1 kept.clock
    exact ⟨pending, fun _ _ => ⟨acc, number, length⟩, fun _ _ => ⟨link, rate, held⟩,
      fun cannot => absurd can (cannot ▸ Bool.false_ne_true)⟩
  | event kept =>
    obtain ⟨pending, held, link, rate, acc, number, length⟩ := clock_eq_iff.1 kept.clock
    exact ⟨pending, fun _ _ => ⟨acc, number, length⟩, fun _ _ => ⟨link, rate, held⟩,
      fun _ _ => ⟨kept.params, kept.trim⟩⟩
  | boundary due passed =>
    subst passed
    obtain ⟨pending, held, link, rate, -⟩ := clock_eq_iff.1 due.clock
    exact ⟨pending, fun own => absurd rfl own, fun _ _ => ⟨link, rate, held⟩, fun _ _ => ⟨due.params, due.trim⟩⟩
  | reset held =>
    subst held
    exact ⟨rfl, fun _ own => absurd rfl own, fun _ own => absurd rfl own, fun _ own => absurd rfl own⟩
  | release taken =>
    subst taken
    exact ⟨rfl, fun _ _ => ⟨rfl, rfl, rfl⟩, fun own => absurd rfl (own _ _), fun _ _ => ⟨rfl, rfl⟩⟩

/-! ### The ranges of the timebase (R135, R137) -/

/-- Where T and the timebase are kept, or T is written in its range, the ranges stay. -/
theorem RequestKept.clockInRange {s t : State} (h : RequestKept s t) (hs : ClockInRange s) : ClockInRange t := by
  obtain ⟨hlow, hhigh, hrest⟩ := hs
  obtain ⟨-, -, -, -, acc, -, length⟩ := clock_eq_iff.1 h.clock
  obtain ⟨low, high⟩ := h.trimFits ⟨hlow, hhigh⟩
  refine ⟨low, high, ?_⟩
  rwa [acc, length]

/-- A frame boundary leaves a remainder below 2^23 in A, and k lies in −40 to 40: |T × 160,000| is at most 39.06 × 2^23
(R135). -/
theorem advanceClock_clockInRange {s : State} (hs : ClockInRange s) : ClockInRange (advanceClock s) := by
  obtain ⟨hlow, hhigh, hacc, hmod, -, -⟩ := hs
  refine ⟨hlow, hhigh, ?_⟩
  simp only [advanceClock, Config.nominalFrame, Config.trimModulus]
  omega

/-- Settles O55: the front command is executed on the rest of the queue, and each kind of command keeps the ranges. -/
theorem clockStaysInRange : Obligations.ClockStaysInRange := by
  intro s t hs hstep
  unfold step at hstep
  split at hstep
  · cases hstep
    exact hs
  · next c rest _ =>
    have hs' : ClockInRange { s with pending := rest } := hs
    obtain ⟨u, hexec, touches⟩ := exec_touches c { s with pending := rest }
    obtain rfl : u = t := Host.Outcome.next.inj (hexec.symm.trans hstep)
    cases touches with
    | request _ kept => exact kept.clockInRange hs'
    | event kept => exact kept.requestKept.clockInRange hs'
    | boundary due passed =>
      subst passed
      exact advanceClock_clockInRange (due.requestKept.clockInRange hs')
    | reset held =>
      subst held
      exact resetMeetsTheInvariants.1
    | release taken =>
      subst taken
      exact hs'

end Sys2Proof.Machine
end

section
/-! The frame boundary written out (R135, R138 to R140), and the two requests on the timebase, TRIM (R137) and QUERY
CLOCK (R142). -/

namespace Sys2Proof.Machine

/-! ### The frame boundary -/

/-- With k the floor of (A + T × 160,000) / 2^23, the timebase advances by k (R135). -/
theorem advanceClock_eq {s : State} {k : Int} (hlow : k * 8388608 ≤ s.acc + s.trim * 160000)
    (hhigh : s.acc + s.trim * 160000 < (k + 1) * 8388608) :
    advanceClock s = { s with
      frameLength := 160000 - k, acc := s.acc + s.trim * 160000 - k * 8388608, frameNumber := s.frameNumber + 1,
      fsync := true } := by
  have quotient : (s.acc + s.trim * 160000) / 8388608 = k := by omega
  have remainder : (s.acc + s.trim * 160000) % 8388608 = s.acc + s.trim * 160000 - k * 8388608 := by omega
  simp only [advanceClock, Config.nominalFrame, Config.trimModulus, quotient, remainder]

/-- Settles O4: with nothing left due from the last boundary, the timebase advances by the floor and every running timer
takes the boundary. -/
theorem frameBoundaryAdvancesTheTimebase : Obligations.FrameBoundaryAdvancesTheTimebase := by
  refine ⟨fun s k hrun hdue htx hlow hhigh => ?boundary, fun s hrun => ?pulseEnd⟩
  case boundary =>
    rw [exec, execFrameBoundary, whenRunning_of hrun, settleAll_of_none hdue htx, advanceClock_eq hlow hhigh]
    rfl
  case pulseEnd => rw [exec, execFsyncPulseEnd, whenRunning_of hrun]

/-! ### TRIM -/

section
variable {s : State} {l : LinkId}

/-- TRIM from another link than the selected one is refused (R137). -/
theorem doTrim_of_foreign (h : l ≠ s.settingsLink) (value : BitVec 16) :
    doTrim l value s = { state := s, status := .notPermitted, fields := trimBytes s.trim } :=
  if_pos h

/-- TRIM from the selected link stores the saturated value, OK where that is the value asked (R137). -/
theorem doTrim_of_selected (h : l = s.settingsLink) {value : BitVec 16} {v : Int} (hv : saturateTrim value.toInt = v) :
    doTrim l value s =
      { state := { s with trim := v }, status := if v = value.toInt then .ok else .okClamped
        fields := trimBytes v } := by
  rw [doTrim, if_neg (not_not.2 h), hv]

end

theorem trimBytes_toInt (value : BitVec 16) : trimBytes value.toInt = bytes16 value := by
  rw [trimBytes, BitVec.ofInt_toInt]

/-- Settles O34: TRIM by the link it comes from and by where its value lies about the range; QUERY CLOCK reads. -/
theorem trimAndQueryClock : Obligations.TrimAndQueryClock := by
  intro s l tag hready
  have trimmed : ∀ {value : BitVec 16} {t : State} {status : Status} {fields : List Byte},
      doTrim l value s = { state := t, status := status, fields := fields } →
      exec (.trim l tag value) s = .next (t.replied l 0x22 tag status fields) := fun h =>
    request_of_perform hready tag (.trim _) 0x22 rfl h
  refine ⟨fun value hl => trimmed (doTrim_of_foreign hl value), fun value hl hlow hhigh => ?within,
    fun value hl hbelow => ?below, fun value hl habove => ?above,
    request_of_perform hready tag .queryClock 0x1A rfl rfl⟩
  case within =>
    have stored : saturateTrim value.toInt = value.toInt := by unfold saturateTrim; omega
    apply trimmed
    rw [doTrim_of_selected hl stored, if_pos rfl, trimBytes_toInt]
  case below =>
    have stored : saturateTrim value.toInt = -2048 := by unfold saturateTrim; omega
    apply trimmed
    rw [doTrim_of_selected hl stored, if_neg (by omega)]
    rfl
  case above =>
    have stored : saturateTrim value.toInt = 2047 := by unfold saturateTrim; omega
    apply trimmed
    rw [doTrim_of_selected hl stored, if_neg (by omega)]
    rfl

end Sys2Proof.Machine
end

section
/-! What an event does to the links (chapter 9): an event on a link leaves the reception of every other link, its
assembler, slots, reply and flags, and keeps the order of its own slots (R149, R150, R156); an event on no link leaves
the reception of all of them, but for reset. Said once for every command; the two statements are read from it. -/

namespace Sys2Proof.Machine

/-! ### The reception of a link -/

/-- What a link holds beside its transmitter: the assembler, the request slots, the reply slot, the flags and
awaitHigh. -/
def Link.reception (x : Link) : Assembler × List Request × Option (List Byte) × BitVec 7 × Bool :=
  (x.asm, x.slots, x.reply, x.flags, x.awaitHigh)

theorem reception_eq_iff {x y : Link} : y.reception = x.reception ↔
    y.asm = x.asm ∧ y.slots = x.slots ∧ y.reply = x.reply ∧ y.flags = x.flags ∧ y.awaitHigh = x.awaitHigh := by
  simp only [Link.reception, Prod.mk.injEq]

/-- At most two requests wait on a link, and none while no reply is held (R150). -/
def Link.InOrder (x : Link) : Prop := x.slots.length ≤ 2 ∧ (x.reply = none → x.slots = [])

theorem Link.InOrder.of_reception {x y : Link} (h : y.reception = x.reception) (hx : x.InOrder) : y.InOrder := by
  obtain ⟨-, hslots, hreply, -, -⟩ := reception_eq_iff.1 h
  unfold Link.InOrder
  rwa [hslots, hreply]

/-- From s to t the reception of no link has changed. -/
structure ReceptionKept (s t : State) : Prop where
  on : ∀ m, (t.link m).reception = (s.link m).reception

namespace ReceptionKept

theorem refl (s : State) : ReceptionKept s s := ⟨fun _ => rfl⟩

theorem trans {s t u : State} (h : ReceptionKept s t) (k : ReceptionKept t u) : ReceptionKept s u :=
  ⟨fun m => (k.on m).trans (h.on m)⟩

theorem of_links {s t : State} (h : t.links = s.links) : ReceptionKept s t :=
  ⟨fun m => by unfold State.link; rw [h]⟩

theorem foldl {α : Type} (f : State → α → State) (hf : ∀ s a, ReceptionKept s (f s a)) :
    ∀ (l : List α) (s : State), ReceptionKept s (l.foldl f s)
  | [], s => .refl s
  | a :: rest, s => (hf s a).trans (foldl f hf rest (f s a))

end ReceptionKept

/-- From s to t an event has happened on link l: every other link's reception stands, and link l stays in order. -/
structure HappensOn (l : LinkId) (s t : State) : Prop where
  others : ∀ m, m ≠ l → (t.link m).reception = (s.link m).reception
  inOrder : (s.link l).InOrder → (t.link l).InOrder

theorem HappensOn.trans {l : LinkId} {s t u : State} (h : HappensOn l s t) (k : HappensOn l t u) : HappensOn l s u :=
  ⟨fun m hm => (k.others m hm).trans (h.others m hm), k.inOrder ∘ h.inOrder⟩

theorem ReceptionKept.happensOn {s t : State} (h : ReceptionKept s t) (l : LinkId) : HappensOn l s t :=
  ⟨fun m _ => h.on m, .of_reception (h.on l)⟩

/-- A change of one link leaves the others. -/
theorem modLink_others {s : State} {l : LinkId} (f : Link → Link) (m : LinkId) (hm : m ≠ l) :
    ((s.modLink l f).link m).reception = (s.link m).reception := by
  rw [State.link_modLink, if_neg hm.symm]

theorem modLink_happensOn {s : State} {l : LinkId} {f : Link → Link}
    (hf : (s.link l).InOrder → (f (s.link l)).InOrder) : HappensOn l s (s.modLink l f) :=
  ⟨modLink_others f, fun h => by rw [State.link_modLink_self]; exact hf h⟩

/-- A change of one link that keeps its slots and its reply keeps its order. -/
theorem modLink_happensOn_of_slots {s : State} {l : LinkId} {f : Link → Link}
    (hslots : (f (s.link l)).slots = (s.link l).slots) (hreply : (f (s.link l)).reply = (s.link l).reply) :
    HappensOn l s (s.modLink l f) :=
  modLink_happensOn fun h => by unfold Link.InOrder; rwa [hslots, hreply]

/-! ### The transmitter begins -/

theorem beginMessage_receptionKept (l : LinkId) (isReply : Bool) (body : List Byte) (s : State) :
    ReceptionKept s (beginMessage l isReply body s) := by
  refine ⟨fun m => ?_⟩
  rw [beginMessage, State.link_modLink]
  split <;> rfl

theorem transmit_receptionKept (l : LinkId) (s : State) : ReceptionKept s (transmit l s) := by
  unfold transmit
  split
  · exact .refl s
  · exact beginMessage_receptionKept ..
  · exact (beginMessage_receptionKept ..).trans (.of_links rfl)
  · exact (beginMessage_receptionKept ..).trans (.of_links rfl)
  · exact (beginMessage_receptionKept ..).trans (.of_links rfl)

/-- The rows of a link's transmitter (R153). -/
def transmitterRows (l : LinkId) : List Instr :=
  [.replyTransmission l, .prepareNotice l, .moveNotice l, .framePlanNotice l]

/-- The row that begins a choice (R153). -/
def TxChoice.row (l : LinkId) : TxChoice → Instr
  | .reply _ => .replyTransmission l
  | .prepare _ => .prepareNotice l
  | .move _ => .moveNotice l
  | .plan _ => .framePlanNotice l

theorem TxChoice.row_mem (l : LinkId) (x : TxChoice) : x.row l ∈ transmitterRows l := by
  cases x <;> simp [transmitterRows, TxChoice.row]

/-- A row of the transmitter lets it begin where the choice is that row's, and does nothing else (R152, R153). -/
theorem exec_of_transmitterRow {c : Instr} {l : LinkId} (hc : c ∈ transmitterRows l) (s : State) :
    exec c s = whenRunning s fun s => if (txChoice l s).map (TxChoice.row l) = some c then transmit l s else s := by
  simp only [transmitterRows, List.mem_cons, List.not_mem_nil, or_false] at hc
  rcases hc with rfl | rfl | rfl | rfl
  all_goals
    simp only [exec, execReplyTransmission, execPrepareNotice, execMoveNotice, execFramePlanNotice, whenRunning]
    cases choice : txChoice l s with
    | none => simp
    | some x => cases x <;> simp [TxChoice.row, transmit, choice]

theorem transmitAll_receptionKept (s : State) : ReceptionKept s (transmitAll s) :=
  .foldl _ (fun s l => transmit_receptionKept l s) ..

theorem settleLoop_receptionKept (due : State → List Expiry) : ∀ (n : Nat) (s : State),
    ReceptionKept s (settleLoop due n s)
  | 0, s => transmitAll_receptionKept s
  | n + 1, s => by
    unfold settleLoop
    dsimp only
    split
    · exact transmitAll_receptionKept s
    · next x _ =>
      have chosen : ∀ k, ReceptionKept (transmitAll s) { transmitAll s with choices := k } := fun _ => .of_links rfl
      exact (transmitAll_receptionKept s).trans ((chosen _).trans
        ((ReceptionKept.of_links (takeExpiry_rest x _).links).trans (settleLoop_receptionKept due n _)))

theorem settle_receptionKept (s : State) : ReceptionKept s (settle s) := settleLoop_receptionKept ..

theorem settleAll_receptionKept (s : State) : ReceptionKept s (settleAll s) := settleLoop_receptionKept ..

/-! ### A request on its link -/

theorem storeParam_links {q : Param} {v : Nat} {s t : State} (h : storeParam q v s = .ok t) : t.links = s.links := by
  unfold storeParam at h
  dsimp only at h
  split at h
  · rw [← Except.ok.inj h]
  · split at h
    · split at h
      · rw [← Except.ok.inj h]
        exact (SameRest.foldl _ (airtimeChanged_rest _) ..).links
      · exact nomatch h
    · split at h
      · split at h
        · exact nomatch h
        · split at h <;> rw [← Except.ok.inj h]
          exact (depthReleaseAll_rest _).links
      · rw [← Except.ok.inj h]

theorem doSet_links (l : LinkId) (number : Byte) (value : BitVec 16) (s : State) :
    (doSet l number value s).state.links = s.links := by
  unfold doSet
  split
  · rfl
  · unfold setParam
    split
    · rfl
    · split
      · rfl
      · next h => exact storeParam_links h

theorem doTrim_links (l : LinkId) (value : BitVec 16) (s : State) : (doTrim l value s).state.links = s.links := by
  unfold doTrim
  split <;> rfl

/-- A request acts on no link but CLEAR FLAGS, which writes its own link's flags (R155). -/
theorem perform_happensOn (l : LinkId) (q : Request) (s : State) : HappensOn l s (perform l q s).state := by
  cases hq : q.ask.writesRest with
  | false => exact (ReceptionKept.of_links (perform_rest hq l s).links).happensOn l
  | true =>
    unfold perform
    cases h : q.ask with
    | set p v => exact (ReceptionKept.of_links (doSet_links ..)).happensOn l
    | trim v => exact (ReceptionKept.of_links (doTrim_links ..)).happensOn l
    | clearFlags m => exact modLink_happensOn_of_slots (f := fun x => x.clearFlags m) rfl rfl
    | _ => simp [h, Ask.writesRest] at hq

theorem execute_others (l : LinkId) (q : Request) (s : State) (m : LinkId) (hm : m ≠ l) :
    ((execute l q s).link m).reception = (s.link m).reception :=
  (modLink_others _ m hm).trans ((perform_happensOn l q s).others m hm)

theorem executeOldest_others (l : LinkId) (s : State) (m : LinkId) (hm : m ≠ l) :
    ((executeOldest l s).link m).reception = (s.link m).reception := by
  unfold executeOldest
  split
  · exact (execute_others _ _ _ m hm).trans (modLink_others _ m hm)
  · rfl

/-- An executed request leaves its reply, behind which the requests that stood in the slots may wait (R150). -/
theorem execute_inOrder {l : LinkId} {q : Request} {s : State} (h : (s.link l).slots.length ≤ 2) :
    ((execute l q s).link l).InOrder := by
  obtain ⟨_, _, hreply, hslots, -, -⟩ := execute_leaves_reply l q s
  exact ⟨hslots ▸ h, fun hnone => nomatch hnone.symm.trans hreply⟩

/-- With no reply held the oldest request is executed, so that two requests at most are in order again (R150). -/
theorem executeOldest_inOrder {l : LinkId} {s : State} (h : (s.link l).slots.length ≤ 2) :
    ((executeOldest l s).link l).InOrder := by
  unfold executeOldest
  split
  · next q rest _ hslots =>
    refine execute_inOrder ?_
    rw [State.link_modLink_self]
    rw [hslots] at h
    exact Nat.le_of_succ_le h
  · next hnot =>
    refine ⟨h, fun hreply => ?_⟩
    cases hslots : (s.link l).slots with
    | nil => rfl
    | cons q rest => exact (hnot q rest hreply hslots).elim

theorem submit_happensOn (l : LinkId) (q : Request) (s : State) : HappensOn l s (submit l q s) := by
  unfold submit
  split
  · next hfree =>
    refine ⟨fun m hm => (executeOldest_others _ _ m hm).trans (modLink_others _ m hm), fun _ => ?_⟩
    refine executeOldest_inOrder ?_
    rw [State.link_modLink_self, List.length_append]
    exact hfree
  · exact modLink_happensOn_of_slots rfl rfl

/-! ### Characters and the end of a message -/

theorem takeLength_happensOn (l : LinkId) (b : Byte) (s : State) :
    HappensOn l s (s.modLink l fun x => x.takeLength b) := by
  refine modLink_happensOn_of_slots ?_ ?_ <;> (unfold Link.takeLength; split <;> rfl)

theorem takeBody_happensOn (l : LinkId) (n : Nat) (bytes : List Byte) (sum b : Byte) (s : State) :
    HappensOn l s (s.modLink l fun x => x.takeBody n bytes sum b) := by
  refine modLink_happensOn_of_slots ?_ ?_ <;> (unfold Link.takeBody; split <;> rfl)

theorem takeCharacter_happensOn (l : LinkId) (b : Byte) (s : State) : HappensOn l s (takeCharacter l b s) := by
  have heard : HappensOn l s (s.modLink l fun x => { x with awaitHigh := false }) :=
    modLink_happensOn_of_slots rfl rfl
  unfold takeCharacter
  refine heard.trans ?_
  dsimp only
  split
  · split
    · exact modLink_happensOn_of_slots rfl rfl
    · exact (ReceptionKept.refl _).happensOn l
  · exact takeLength_happensOn ..
  · exact takeBody_happensOn ..
  · unfold takeCheck
    split
    · exact .trans (modLink_happensOn_of_slots rfl rfl) (submit_happensOn ..)
    · exact modLink_happensOn_of_slots rfl rfl

theorem takeBad_happensOn (l : LinkId) (e : CharError) (s : State) :
    HappensOn l s (s.modLink l fun x => x.takeBad e) := by
  cases e <;> exact modLink_happensOn_of_slots rfl rfl

theorem idleExpiry_happensOn (l : LinkId) (s : State) : HappensOn l s (s.modLink l Link.idleExpiry) := by
  refine modLink_happensOn_of_slots ?_ ?_ <;> (unfold Link.idleExpiry; split <;> rfl)

/-- A line break leaves no request and no reply (R156). -/
theorem restart_happensOn (l : LinkId) (s : State) : HappensOn l s (s.modLink l Link.restart) :=
  modLink_happensOn fun _ => ⟨Nat.zero_le 2, fun _ => rfl⟩

theorem endMessage_happensOn (l : LinkId) (m : Message) (s : State) : HappensOn l s (endMessage l m s) := by
  have idle : HappensOn l s (s.modLink l fun x => { x with tx := none }) := modLink_happensOn_of_slots rfl rfl
  unfold endMessage
  refine idle.trans ?_
  dsimp only
  split
  · refine ⟨fun k hk => (executeOldest_others _ _ k hk).trans (modLink_others _ k hk), fun h => ?_⟩
    refine executeOldest_inOrder ?_
    rw [State.link_modLink_self]
    exact h.1
  · exact (ReceptionKept.refl _).happensOn l

/-! ### What each command can do to the links -/

/-- From s to t a command has done to the links what its kind can do. -/
inductive LinkEffect (s t : State) : Instr → Prop where
  /-- A command on a link. -/
  | own {c : Instr} {l : LinkId} (row : linkOf c = some l) (kept : HappensOn l s t) : LinkEffect s t c
  /-- A command on no link: no more than transmitters that begin. -/
  | event {c : Instr} (kept : ReceptionKept s t) : LinkEffect s t c
  /-- Reset (R180). -/
  | reset (held : t = holdReset s) : LinkEffect s t .reset

/-- A command that runs only while reset is not held changes no link while it is held. -/
theorem whenRunning_linkEffect {s t : State} {f : State → State} {c : Instr} (h : whenRunning s f = .next t)
    (hf : LinkEffect s (f s) c) : LinkEffect s t c := by
  unfold whenRunning at h
  cases h
  split
  · exact .event (.refl s)
  · exact hf

/-- A request row names the link of its request. -/
theorem linkOf_of_requestOf {c : Instr} {l : LinkId} {q : Request} (h : requestOf c = some (l, q)) :
    linkOf c = some l := by
  cases c <;> simp only [requestOf, Option.some.injEq, Prod.mk.injEq, reduceCtorEq] at h
  case setAirtimeParameter l' tag p v =>
    cases p <;> simp only [Option.some.injEq, Prod.mk.injEq] at h <;> exact congrArg some h.1
  all_goals exact congrArg some h.1

/-- Every command does to the links what its kind can do. -/
theorem exec_linkEffect {c : Instr} {s t : State} (h : exec c s = .next t) : LinkEffect s t c := by
  cases hq : requestOf c with
  | some p =>
    rw [exec_of_requestOf hq] at h
    exact whenRunning_linkEffect h
      (.own (linkOf_of_requestOf hq) (((settle_receptionKept s).happensOn _).trans (submit_happensOn ..)))
  | none =>
    have heard : ∀ {c : Instr} {l : LinkId} {b : Byte}, linkOf c = some l →
        whenRunning s (fun s => takeCharacter l b (settle s)) = .next t → LinkEffect s t c := fun row h =>
      whenRunning_linkEffect h
        (.own row (((settle_receptionKept s).happensOn _).trans (takeCharacter_happensOn ..)))
    have expiry : ∀ {c : Instr} (x : Expiry),
        whenRunning s (fun s => takeExpiry x (transmitAll s)) = .next t → LinkEffect s t c := fun x h =>
      whenRunning_linkEffect h
        (.event ((transmitAll_receptionKept s).trans (.of_links (takeExpiry_rest x _).links)))
    have begins : ∀ {c : Instr} {l : LinkId}, c ∈ transmitterRows l → exec c s = .next t → LinkEffect s t c := by
      intro c l row h
      rw [exec_of_transmitterRow row] at h
      refine whenRunning_linkEffect h (.event ?_)
      split
      · exact transmit_receptionKept l s
      · exact .refl s
    cases c
    case requestReceived => exact heard rfl h
    case malformed => exact heard rfl h
    case goodCharacter => exact heard rfl h
    case badCharacter l e =>
      rw [exec, execBadCharacter] at h
      exact whenRunning_linkEffect h (.own rfl (takeBad_happensOn l e s))
    case idleTimerExpiry l =>
      rw [exec, execIdleTimerExpiry] at h
      exact whenRunning_linkEffect h (.own rfl (idleExpiry_happensOn l s))
    case lineBreak l =>
      rw [exec, execLineBreak] at h
      exact whenRunning_linkEffect h
        (.own rfl (((settle_receptionKept s).happensOn l).trans (restart_happensOn l _)))
    case replyTransmission l => exact begins (l := l) (by simp [transmitterRows]) h
    case prepareNotice l => exact begins (l := l) (by simp [transmitterRows]) h
    case moveNotice l => exact begins (l := l) (by simp [transmitterRows]) h
    case framePlanNotice l => exact begins (l := l) (by simp [transmitterRows]) h
    case messageSent l =>
      rw [exec, execMessageSent] at h
      refine whenRunning_linkEffect h (.own rfl (((settle_receptionKept s).happensOn l).trans ?_))
      dsimp only
      split
      · exact (ReceptionKept.refl _).happensOn l
      · exact (endMessage_happensOn ..).trans ((transmit_receptionKept ..).happensOn l)
    case frameBoundary =>
      rw [exec, execFrameBoundary] at h
      exact whenRunning_linkEffect h (.event ((settleAll_receptionKept s).trans (.of_links rfl)))
    case serveLostExpiry i => exact expiry (.serveLost i) h
    case retainExpiry i => exact expiry (.retain i) h
    case candidateAgeExpiry i a => exact expiry (.candidateAge i a) h
    case prepareTimerExpiry e => exact expiry (.prepare e) h
    case moveTimerExpiry e => exact expiry (.move e) h
    case reset =>
      cases h
      exact .reset rfl
    case resetRelease =>
      cases h
      split <;> exact .event (.of_links rfl)
    case fsyncPulseEnd =>
      rw [exec, execFsyncPulseEnd] at h
      exact whenRunning_linkEffect h (.event (.of_links rfl))
    case setAirtimeParameter l tag p v => cases p <;> simp [requestOf] at hq
    all_goals simp [requestOf] at hq

/-- Settles O54: a command on a link happens on that link alone. The transmitter is not among what it leaves. -/
theorem linksAreIndependent : Obligations.LinksAreIndependent := by
  intro c l m s t row hm h
  refine reception_eq_iff.1 ?_
  cases exec_linkEffect h with
  | own row' kept =>
    obtain rfl := Option.some.inj (row.symm.trans row')
    exact kept.others m hm
  | event kept => exact kept.on m
  | reset => exact nomatch row

/-- Settles O56: the front command keeps the order of the link that it happens on, and leaves the slots and the reply
of the others; reset empties every link. -/
theorem linksStayInOrder : Obligations.LinksStayInOrder := by
  intro s t hs h m
  unfold step at h
  split at h
  · cases h
    exact hs m
  · next c rest _ =>
    have before : (State.link { s with pending := rest } m).InOrder := hs m
    cases exec_linkEffect h with
    | @own _ l _ kept =>
      by_cases hm : m = l
      · subst hm
        exact kept.inOrder before
      · exact before.of_reception (kept.others m hm)
    | event kept => exact before.of_reception (kept.on m)
    | reset held =>
      subst held
      exact resetMeetsTheInvariants.2.1 m

end Sys2Proof.Machine
end

section
/-! The characters of a message, one by one (R144 to R149): what each does to the assembler of its link, the line
errors and the line break (R144, R147, R156), what becomes of a request that arrives whole (R149, R150), and CLEAR FLAGS
(R155). -/

namespace Sys2Proof.Machine

/-! ### The assembler (R145 to R148) -/

/-- The state in which a character has just put the assembler of link l at a. -/
def State.assembling (s : State) (l : LinkId) (a : Assembler) : State :=
  s.modLink l fun x => { x with awaitHigh := false, asm := a }

@[simp] theorem assembling_asm (s : State) (l : LinkId) (a : Assembler) : ((s.assembling l a).link l).asm = a := by
  rw [State.assembling, State.link_modLink_self]

@[simp] theorem assembling_slots (s : State) (l : LinkId) (a : Assembler) :
    ((s.assembling l a).link l).slots = (s.link l).slots := by
  rw [State.assembling, State.link_modLink_self]

@[simp] theorem assembling_reply (s : State) (l : LinkId) (a : Assembler) :
    ((s.assembling l a).link l).reply = (s.link l).reply := by
  rw [State.assembling, State.link_modLink_self]

@[simp] theorem assembling_assembling (s : State) (l : LinkId) (a b : Assembler) :
    (s.assembling l a).assembling l b = s.assembling l b :=
  State.modLink_modLink ..

/-- An assembler that stands where it is put, after a character, is left as it is. -/
theorem assembling_self {s : State} {l : LinkId} {a : Assembler} (hasm : (s.link l).asm = a)
    (hhigh : (s.link l).awaitHigh = false) : s.assembling l a = s := by
  rw [State.assembling, State.modLink, ← hasm, ← hhigh, State.setLink_link]

/-- What an idle transmitter sends does not depend on the assembler (R153). -/
theorem txChoice_assembling (s : State) (l m : LinkId) (a : Assembler) :
    txChoice m (s.assembling l a) = txChoice m s := by
  have htx : ((s.assembling l a).link m).tx = (s.link m).tx := by
    rw [State.assembling, State.link_modLink]
    split <;> rfl
  have hreply : ((s.assembling l a).link m).reply = (s.link m).reply := by
    rw [State.assembling, State.link_modLink]
    split <;> rfl
  unfold txChoice
  rw [htx, hreply]
  rfl

theorem quiet_assembling {s : State} (h : Quiet s) (l : LinkId) (a : Assembler) : Quiet (s.assembling l a) :=
  ⟨h.1, fun m => (txChoice_assembling s l m a).trans (h.2 m)⟩

section
variable {s : State} {l : LinkId}

/-- HUNT waits for the lead byte (R145). -/
theorem takeCharacter_of_hunt (h : (s.link l).asm = .hunt) (b : Byte) :
    takeCharacter l b s = s.assembling l (if b = 0xC3 then .length else .hunt) := by
  unfold takeCharacter
  simp only [State.link_modLink_self, h, State.modLink_modLink]
  split
  · rfl
  · unfold State.assembling State.modLink
    dsimp only
    rw [h]

/-- A length byte in range opens a body (R146). -/
theorem takeCharacter_of_length (h : (s.link l).asm = .length) {b : Byte} (hlow : 2 ≤ b.toNat)
    (hhigh : b.toNat ≤ 200) :
    takeCharacter l b s = s.assembling l (.body b.toNat [] b) := by
  unfold takeCharacter
  simp only [State.link_modLink_self, h, State.modLink_modLink, Link.takeLength, hlow, hhigh, and_self, if_true]
  rfl

/-- A length byte out of range latches MALFORMED (R146). -/
theorem takeCharacter_of_badLength (h : (s.link l).asm = .length) {b : Byte} (hb : b.toNat < 2 ∨ 200 < b.toNat) :
    takeCharacter l b s =
      s.modLink l fun x => { x with awaitHigh := false, asm := .hunt, flags := x.flags ||| 16#7 } := by
  have out : ¬(2 ≤ b.toNat ∧ b.toNat ≤ 200) := by omega
  unfold takeCharacter
  simp only [State.link_modLink_self, h, State.modLink_modLink, Link.takeLength, out, if_false]
  rfl

/-- A body byte is stored and added to the sum; the Nth is the last (R145). -/
theorem takeCharacter_of_body {n : Nat} {bytes : List Byte} {sum : Byte} (h : (s.link l).asm = .body n bytes sum)
    (b : Byte) :
    takeCharacter l b s = s.assembling l
      (if bytes.length + 1 < n then .body n (bytes ++ [b]) (sum + b) else .check (bytes ++ [b]) (sum + b)) := by
  unfold takeCharacter
  simp only [State.link_modLink_self, h, State.modLink_modLink, Link.takeBody]
  split <;> rfl

/-- A check byte that makes the sum 0 ends a message, whose request arrives whole (R148, R149). -/
theorem takeCharacter_of_check {bytes : List Byte} {sum b : Byte} (h : (s.link l).asm = .check bytes sum)
    (hsum : sum + b = 0) : takeCharacter l b s = submit l (Request.ofBody bytes) (s.assembling l .hunt) := by
  unfold takeCharacter
  simp only [State.link_modLink_self, h, takeCheck, hsum, if_true, State.modLink_modLink]
  rfl

/-- Another check byte latches CHECK, and the message is discarded (R148). -/
theorem takeCharacter_of_badCheck {bytes : List Byte} {sum b : Byte} (h : (s.link l).asm = .check bytes sum)
    (hsum : sum + b ≠ 0) : takeCharacter l b s =
      s.modLink l fun x => { x with awaitHigh := false, asm := .hunt, flags := x.flags ||| 8#7 } := by
  unfold takeCharacter
  simp only [State.link_modLink_self, h, takeCheck, hsum, if_false, State.modLink_modLink]
  rfl

/-! ### The character rows -/

/-- A character row takes its character in whatever state the assembler is (log entry 7). -/
theorem exec_goodCharacter (hrun : s.resetHeld = false) (hquiet : Quiet s) (b : Byte) :
    exec (.goodCharacter l b) s = .next (takeCharacter l b s) := by
  rw [exec, execGoodCharacter, whenRunning_of hrun, settle_of_quiet hquiet]

/-- With nothing left to take, a request row submits its request (R149). -/
theorem exec_request_of_quiet {c : Instr} {q : Request} (hq : requestOf c = some (l, q)) (hrun : s.resetHeld = false)
    (hquiet : Quiet s) : exec c s = .next (submit l q s) := by
  rw [exec_of_requestOf hq, whenRunning_of hrun, settle_of_quiet hquiet]

end

/-- Settles O37: a request row submits its request, which waits or is lost. -/
theorem requestsWaitAndOverrun : Obligations.RequestsWaitAndOverrun := by
  intro c l q s hq hrun hquiet
  rw [exec_request_of_quiet hq hrun hquiet]
  exact ⟨fun hreply hslots => congrArg _ (submit_of_waiting hslots hreply),
    fun hslots => congrArg _ (submit_of_full hslots)⟩

/-- Settles O38, by the state the assembler is in. -/
theorem charactersAreAssembled : Obligations.CharactersAreAssembled := by
  intro s l b hrun hquiet
  rw [exec_goodCharacter hrun hquiet]
  exact ⟨fun h => congrArg _ (takeCharacter_of_hunt h b), fun n bytes sum h => congrArg _ (takeCharacter_of_body h b)⟩

/-- Settles O39: the two rows take the same character. -/
theorem lengthBytesAreChecked : Obligations.LengthBytesAreChecked := by
  intro s l b hrun hquiet hasm
  have taken : exec (.malformed l b) s = .next (takeCharacter l b s) := exec_goodCharacter hrun hquiet b
  rw [taken, exec_goodCharacter hrun hquiet]
  exact ⟨fun hlow hhigh => congrArg _ (takeCharacter_of_length hasm hlow hhigh),
    fun hb => ⟨congrArg _ (takeCharacter_of_badLength hasm hb), rfl⟩⟩

/-- Settles O40: the request of a whole message is submitted from HUNT, as its row submits it. -/
theorem checkBytesAreChecked : Obligations.CheckBytesAreChecked := by
  intro s l b bytes sum hrun hquiet hasm
  have taken : exec (.requestReceived l b) s = .next (takeCharacter l b s) := exec_goodCharacter hrun hquiet b
  rw [taken, exec_goodCharacter hrun hquiet]
  refine ⟨fun hsum => congrArg _ (takeCharacter_of_badCheck hasm hsum), fun hsum hreply hslots => congrArg _ ?waits,
    fun hsum hslots => congrArg _ ?lost, fun t c hsum hq ht => ?row, rfl⟩
  case waits =>
    rw [takeCharacter_of_check hasm hsum, submit_of_waiting (by simpa using hslots) (by simpa using hreply)]
    exact State.modLink_modLink ..
  case lost =>
    rw [takeCharacter_of_check hasm hsum, submit_of_full (by simp [hslots])]
    exact State.modLink_modLink ..
  case row =>
    obtain rfl : t = s.assembling l .hunt := ht
    have submitted : exec c (s.assembling l .hunt) = .next (submit l (Request.ofBody bytes) (s.assembling l .hunt)) :=
      exec_request_of_quiet hq hrun (quiet_assembling hquiet l .hunt)
    rw [takeCharacter_of_check hasm hsum, submitted]

/-! ### Line errors, the idle timer and the line break (R144, R147, R156) -/

/-- The idle timer does not run in HUNT (R147). -/
theorem idleExpiry_of_hunt {x : Link} (h : x.asm = .hunt) : x.idleExpiry = x := by
  simp [Link.idleExpiry, Link.idleRunning, h]

theorem idleExpiry_of_message {x : Link} (h : x.asm ≠ .hunt) :
    x.idleExpiry = { x with asm := .hunt, flags := x.flags ||| 32#7 } := by
  simp [Link.idleExpiry, Link.idleRunning, h, Link.latch, Link.toHunt, LinkFlag.mask]

/-- Settles O41: only the line break takes first what is due, since only it writes the transmitter. -/
theorem lineErrorsAndBreaks : Obligations.LineErrorsAndBreaks := by
  intro s l hrun
  have idle : exec (.idleTimerExpiry l) s = .next (s.setLink l (s.link l).idleExpiry) := by
    rw [exec, execIdleTimerExpiry, whenRunning_of hrun]
    rfl
  refine ⟨?parity, ?framing, fun hasm => ?message, fun hasm => ?hunt, fun hquiet => ?lineBreak⟩
  case parity =>
    rw [exec, execBadCharacter, whenRunning_of hrun]
    rfl
  case framing =>
    rw [exec, execBadCharacter, whenRunning_of hrun]
    rfl
  case message =>
    rw [idle, idleExpiry_of_message hasm]
    rfl
  case hunt => rw [idle, idleExpiry_of_hunt hasm, State.setLink_link]
  case lineBreak =>
    rw [exec, execLineBreak, whenRunning_of hrun, settle_of_quiet hquiet]
    rfl

/-! ### CLEAR FLAGS (R155, R172) -/

/-- Settles O35: the flags that the mask leaves are the ones that the reply reads. -/
theorem clearFlagsClearsTheMask : Obligations.ClearFlagsClearsTheMask := by
  intro s l tag mask hs
  refine ⟨(s.link l).flags &&& ~~~(mask.setWidth 7), fun k => ?bits, ?reply⟩
  case bits => simp
  case reply =>
    have executed := request_of_perform hs tag (.clearFlags mask) 0x23 rfl rfl
    exact executed.trans (congrArg _ (State.modLink_modLink ..))

end Sys2Proof.Machine
end

section
/-! The end of a message on TXD (R150, R152, R153): what it leaves of the link, which request it executes, and what
the transmitter begins then. -/

namespace Sys2Proof.Machine

section
variable {s : State} {l : LinkId}

/-! ### The transmitter's rows (R153) -/

/-- A row of the transmitter that does something lets it begin (R153). -/
theorem exec_of_transmitterRow_of_ne (hrun : s.resetHeld = false) {c : Instr} (hc : c ∈ transmitterRows l)
    (h : exec c s ≠ .next s) : exec c s = .next (transmit l s) := by
  rw [exec_of_transmitterRow hc, whenRunning_of hrun] at h ⊢
  split at h
  · next hrow => rw [if_pos hrow]
  · exact absurd rfl h

/-- Where no row of the transmitter does anything, it has nothing to begin (R152). -/
theorem transmit_of_rows (hrun : s.resetHeld = false) (h : ∀ c ∈ transmitterRows l, exec c s = .next s) :
    transmit l s = s := by
  cases choice : txChoice l s with
  | none => exact transmit_of_none choice
  | some x =>
    have begun := exec_of_transmitterRow (x.row_mem l) s
    rw [whenRunning_of hrun, if_pos (by rw [choice, Option.map_some])] at begun
    exact Host.Outcome.next.inj (begun.symm.trans (h _ (x.row_mem l)))

/-- A reply goes before every notice (R153). -/
theorem transmit_of_reply (hidle : (s.link l).tx = none) {body : List Byte} (hb : (s.link l).reply = some body) :
    transmit l s = beginReply l body s := by
  have choice : txChoice l s = some (.reply body) := by simp only [txChoice, hidle, hb]
  rw [transmit, choice]

/-! ### The message that ends (R150, R152) -/

theorem executeOldest_of_empty (h : (s.link l).slots = []) : executeOldest l s = s := by
  unfold executeOldest
  rw [h]
  cases (s.link l).reply <;> rfl

theorem executeOldest_of_waiting {q : Request} {rest : List Request} (hr : (s.link l).reply = none)
    (hs : (s.link l).slots = q :: rest) :
    executeOldest l s = execute l q (s.modLink l fun x => { x with slots := rest }) := by
  unfold executeOldest
  rw [hr, hs]

variable {m : Message}

theorem endMessage_of_notice (hm : m.isReply = false) :
    endMessage l m s = s.modLink l fun x => { x with tx := none } := by
  simp [endMessage, hm]

theorem endMessage_of_reply (hm : m.isReply = true) :
    endMessage l m s = executeOldest l (s.modLink l fun x => { x with tx := none, reply := none }) := by
  simp only [endMessage, hm, if_true, State.modLink_modLink]
  rfl

theorem endMessage_of_empty (hm : m.isReply = true) (hs : (s.link l).slots = []) :
    endMessage l m s = s.modLink l fun x => { x with tx := none, reply := none } := by
  rw [endMessage_of_reply hm, executeOldest_of_empty (by rw [State.link_modLink_self, hs])]

/-- The oldest request that waits behind a reply is executed as the reply ends (R150). -/
theorem endMessage_of_waiting (hm : m.isReply = true) {q : Request} {rest : List Request}
    (hs : (s.link l).slots = q :: rest) :
    endMessage l m s = execute l q (s.modLink l fun x => { x with tx := none, reply := none, slots := rest }) := by
  rw [endMessage_of_reply hm, executeOldest_of_waiting (by rw [State.link_modLink_self])
    (by rw [State.link_modLink_self, hs]), State.modLink_modLink]
  rfl

theorem exec_messageSent (hrun : s.resetHeld = false) (hquiet : Quiet s) (htx : (s.link l).tx = some m) :
    exec (.messageSent l) s = .next (transmit l (endMessage l m s)) := by
  rw [exec, execMessageSent, whenRunning_of hrun, settle_of_quiet hquiet]
  dsimp only
  rw [htx]

end

/-- Settles O43: the message ends, and the transmitter begins what the row that acts would have it begin; behind a
reply the oldest request is executed, and its reply goes before every notice. -/
theorem messageEndsFreeTheLine : Obligations.MessageEndsFreeTheLine := by
  refine ⟨fun s l m hrun hquiet htx => ⟨fun t ht => ?freed, fun q rest body u hm hslots hu hbody => ?next⟩,
    fun c l q s hs hq => exec_of_ready hs hq⟩
  case freed =>
    have ended : endMessage l m s = t ∧ t.resetHeld = false := by
      rcases ht with ⟨hm, rfl⟩ | ⟨hm, hslots, rfl⟩
      · exact ⟨endMessage_of_notice hm, hrun⟩
      · exact ⟨endMessage_of_empty hm hslots, hrun⟩
    obtain ⟨ended, hrun'⟩ := ended
    rw [exec_messageSent hrun hquiet htx, ended]
    exact ⟨fun c hc h => (exec_of_transmitterRow_of_ne hrun' hc h).symm,
      fun h => congrArg _ (transmit_of_rows hrun' h)⟩
  case next =>
    subst hu
    obtain ⟨_, _, -, -, -, idle⟩ := execute_leaves_reply l q
      (s.modLink l fun x => { x with tx := none, reply := none, slots := rest })
    rw [State.link_modLink_self] at idle
    rw [exec_messageSent hrun hquiet htx, endMessage_of_waiting hm hslots, transmit_of_reply idle hbody]
    rfl

end Sys2Proof.Machine
end

section
/-! A request row as its characters (log entry 6): the body of a request is read back as that request (R159 to R161),
and the framed body, taken character by character from HUNT, submits it (R145 to R149). -/

namespace Sys2Proof.Machine

/-! ### The fields of a body (R161) -/

theorem word16_bytes16 (x : BitVec 16) : word16 (x.extractLsb' 8 8) (x.extractLsb' 0 8) = x := by
  rw [word16, BitVec.extractLsb'_append_extractLsb'_eq_extractLsb' (by rfl), BitVec.extractLsb'_eq_self]

theorem word24_bytes24 (x : BitVec 24) :
    word24 (x.extractLsb' 16 8) (x.extractLsb' 8 8) (x.extractLsb' 0 8) = x := by
  rw [word24, BitVec.extractLsb'_append_extractLsb'_eq_extractLsb' (by rfl),
    BitVec.extractLsb'_append_extractLsb'_eq_extractLsb' (by rfl), BitVec.extractLsb'_eq_self]

theorem length_pairBytes : ∀ pairs : List (HeadsetId × Byte), (pairBytes pairs).length = 4 * pairs.length
  | [] => rfl
  | p :: rest => by
    have ih := length_pairBytes rest
    simp only [pairBytes, bytes24, List.length_append, List.length_cons, List.length_nil]
    omega

theorem pairsOf_pairBytes : ∀ pairs : List (HeadsetId × Byte), pairsOf (pairBytes pairs) = pairs
  | [] => rfl
  | p :: rest =>
    congrArg₂ (fun h tail => (h, p.2) :: tail) (word24_bytes24 p.1) (pairsOf_pairBytes rest)

/-- What a request row of a known kind asks: a LEVELS whose pairs fit a body (R146), or any other kind (section
10.1). -/
def Ask.Fits : Ask → Prop
  | .levels _ pairs => levelsFits pairs = true
  | .badLength | .unknown => False
  | _ => True

theorem levelsFits_iff {pairs : List (HeadsetId × Byte)} : levelsFits pairs = true ↔ pairs.length ≤ 49 := by
  unfold levelsFits
  rw [decide_eq_true_iff]
  omega

/-- The fields of a body ask what they were laid out for (R161). -/
theorem Ask.ofFields_fields {a : Ask} (ha : a.Fits) : Ask.ofFields (a.kind?.getD 0) a.fields = a := by
  cases a with
  | levels b pairs =>
    have hcount : (byteOf pairs.length).toNat = pairs.length := by
      have := levelsFits_iff.1 ha
      rw [byteOf, BitVec.toNat_ofNat]
      omega
    refine (Ask.ofFields_levels b (byteOf pairs.length) (pairBytes pairs)).trans ?_
    rw [if_pos (by rw [length_pairBytes, hcount]), pairsOf_pairBytes]
  | attach h b c set v =>
    exact congrArg₂ (fun h set => Ask.attach h b c set v) (word24_bytes24 h) (word16_bytes16 set)
  | listen h set => exact congrArg₂ Ask.listen (word24_bytes24 h) (word16_bytes16 set)
  | key h k => exact congrArg (Ask.key · k) (word24_bytes24 h)
  | arrived h b => exact congrArg (Ask.arrived · b) (word24_bytes24 h)
  | detach h => exact congrArg Ask.detach (word24_bytes24 h)
  | ready h => exact congrArg Ask.ready (word24_bytes24 h)
  | decline h => exact congrArg Ask.decline (word24_bytes24 h)
  | stay h => exact congrArg Ask.stay (word24_bytes24 h)
  | queryHeadset h => exact congrArg Ask.queryHeadset (word24_bytes24 h)
  | set p v => exact congrArg (Ask.set p) (word16_bytes16 v)
  | trim v => exact congrArg Ask.trim (word16_bytes16 v)
  | badLength => exact ha.elim
  | unknown => exact ha.elim
  | _ => rfl

/-- The fields of a body take at most 198 of its 200 bytes (R146). -/
theorem Ask.length_fields {a : Ask} (ha : a.Fits) : a.fields.length ≤ 198 := by
  cases a with
  | levels b pairs =>
    have := levelsFits_iff.1 ha
    simp only [Ask.fields, List.length_append, List.length_cons, List.length_nil, length_pairBytes]
    omega
  | _ => simp [Ask.fields, bytes24, bytes16]

/-! ### The request of a row -/

/-- A well-formed request row carries a request of a known kind that fits its body, or one whose kind byte names none
(R160). -/
theorem fits_of_wellFormed {c : Instr} {l : LinkId} {q : Request} (hq : requestOf c = some (l, q))
    (hw : c.wellFormed = true) :
    (∃ tag ask, q = .make tag ask ∧ ask.Fits) ∨ ∃ kind tag, q = .ofBody [kind, tag] ∧ kind ∉ requestKinds := by
  cases c <;> simp only [requestOf, Option.some.injEq, Prod.mk.injEq, reduceCtorEq] at hq
  case unknownKind l' kind tag =>
    exact .inr ⟨kind, tag, hq.2.symm, by simpa [Instr.wellFormed] using hw⟩
  case levels => exact .inl ⟨_, _, hq.2.symm, hw⟩
  case setAirtimeParameter l' tag p v =>
    cases p <;> simp only [Option.some.injEq, Prod.mk.injEq] at hq <;> exact .inl ⟨_, _, hq.2.symm, trivial⟩
  all_goals exact .inl ⟨_, _, hq.2.symm, trivial⟩

/-- The body of a well-formed request row is read back as its request, and has a length that R146 accepts. -/
theorem body_of_wellFormed {c : Instr} {l : LinkId} {q : Request} (hq : requestOf c = some (l, q))
    (hw : c.wellFormed = true) : Request.ofBody q.body = q ∧ 2 ≤ q.body.length ∧ q.body.length ≤ 200 := by
  rcases fits_of_wellFormed hq hw with ⟨tag, ask, rfl, hfits⟩ | ⟨kind, tag, rfl, hkind⟩
  · have hlength := Ask.length_fields hfits
    refine ⟨congrArg (Request.mk _ tag) (Ask.ofFields_fields hfits), Nat.le_add_left 2 _, ?_⟩
    exact Nat.add_le_add_right hlength 2
  · have foreign : Request.ofBody [kind, tag] = { kind := kind, tag := tag, ask := .unknown } :=
      congrArg (Request.mk kind tag) (Ask.ofFields_of_foreign hkind)
    rw [foreign]
    exact ⟨foreign, Nat.le_refl 2, Nat.le_add_left 2 198⟩

/-! ### The characters of a message -/

theorem runCommands_cons {c : Instr} {rest : List Instr} {s t : State} (h : exec c s = .next t) :
    runCommands (c :: rest) s = runCommands rest t := by
  rw [runCommands, h]

theorem runCommands_append {rest : List Instr} {t : State} : ∀ {cs : List Instr} {s : State},
    runCommands cs s = .next t → runCommands (cs ++ rest) s = runCommands rest t
  | [], s, h => by rw [Host.Outcome.next.inj h, List.nil_append]
  | c :: cs, s, h => by
    cases hc : exec c s with
    | next u =>
      rw [runCommands_cons hc] at h
      rw [List.cons_append, runCommands_cons hc, runCommands_append h]
    | fault r => exact nomatch r
    | refused r =>
      rw [runCommands, hc] at h
      exact nomatch h

section
variable {s : State} {l : LinkId} (hrun : s.resetHeld = false) (hquiet : Quiet s)
include hrun hquiet

theorem exec_goodCharacter_assembling (a : Assembler) (b : Byte) :
    exec (.goodCharacter l b) (s.assembling l a) = .next (takeCharacter l b (s.assembling l a)) :=
  exec_goodCharacter (s := s.assembling l a) hrun (quiet_assembling hquiet l a) b

/-- The body bytes that are still to come bring the assembler from BODY to CHECK (R145). -/
theorem runCommands_body {n : Nat} : ∀ (rest bytes : List Byte) (sum : Byte), rest ≠ [] →
    bytes.length + rest.length = n →
    runCommands (rest.map fun b => .goodCharacter l b) (s.assembling l (.body n bytes sum)) =
      .next (s.assembling l (.check (bytes ++ rest) (sum + byteSum rest)))
  | [b], bytes, sum, _, hn => by
    have last : ¬bytes.length + 1 < n := by rw [← hn]; exact Nat.lt_irrefl _
    have taken := takeCharacter_of_body (assembling_asm s l (.body n bytes sum)) b
    rw [if_neg last, assembling_assembling] at taken
    rw [List.map_cons, runCommands_cons ((exec_goodCharacter_assembling hrun hquiet _ b).trans (congrArg _ taken))]
    simp [runCommands, byteSum]
  | b :: c :: rest, bytes, sum, _, hn => by
    have more : bytes.length + 1 < n := by
      rw [← hn, List.length_cons, List.length_cons]
      omega
    have taken := takeCharacter_of_body (assembling_asm s l (.body n bytes sum)) b
    rw [if_pos more, assembling_assembling] at taken
    have left : (bytes ++ [b]).length + (c :: rest).length = n := by
      rw [← hn, List.length_append, List.length_singleton, List.length_cons (a := b), Nat.add_assoc, Nat.add_comm 1]
    rw [List.map_cons, runCommands_cons ((exec_goodCharacter_assembling hrun hquiet _ b).trans (congrArg _ taken)),
      runCommands_body (c :: rest) (bytes ++ [b]) (sum + b) nofun left]
    simp [byteSum, BitVec.add_assoc]

/-- From HUNT, the characters of a framed body submit the request of that body (R145 to R149). -/
theorem runCommands_frameMessage (hasm : (s.link l).asm = .hunt) (hhigh : (s.link l).awaitHigh = false)
    {body : List Byte} (hlow : 2 ≤ body.length) (hmost : body.length ≤ 200) :
    runCommands ((frameMessage body).map fun b => .goodCharacter l b) s =
      .next (submit l (Request.ofBody body) s) := by
  have hcount : (byteOf body.length).toNat = body.length := by
    rw [byteOf, BitVec.toNat_ofNat]
    omega
  have lead : exec (.goodCharacter l 0xC3) s = .next (s.assembling l .length) :=
    (exec_goodCharacter hrun hquiet _).trans (congrArg _ (takeCharacter_of_hunt hasm _))
  have length : exec (.goodCharacter l (byteOf body.length)) (s.assembling l .length) =
      .next (s.assembling l (.body body.length [] (byteOf body.length))) := by
    rw [exec_goodCharacter_assembling hrun hquiet,
      takeCharacter_of_length (assembling_asm ..) (by rwa [hcount]) (by rwa [hcount]), assembling_assembling, hcount]
  have rest := runCommands_body hrun hquiet (l := l) body [] (byteOf body.length)
    (List.ne_nil_of_length_pos (by omega)) (Nat.zero_add _)
  have check : ∀ sum : Byte, exec (.goodCharacter l (-sum)) (s.assembling l (.check body sum)) =
      .next (submit l (Request.ofBody body) s) := fun sum => by
    rw [exec_goodCharacter_assembling hrun hquiet,
      takeCharacter_of_check (assembling_asm ..) (BitVec.add_right_neg sum), assembling_assembling,
      assembling_self hasm hhigh]
  rw [frameMessage, List.map_cons, List.map_cons, List.map_append, runCommands_cons lead, runCommands_cons length,
    runCommands_append rest, List.map_singleton]
  exact runCommands_cons (check _)

end

/-- Settles O44: the characters submit the request that the body spells, and the row submits it too. -/
theorem requestRowsAreTheirCharacters : Obligations.RequestRowsAreTheirCharacters := by
  intro c l q s hq hw hrun hquiet hasm hhigh
  obtain ⟨hbody, hlow, hmost⟩ := body_of_wellFormed hq hw
  rw [runCommands_frameMessage hrun hquiet hasm hhigh hlow hmost, hbody, exec_request_of_quiet hq hrun hquiet]

end Sys2Proof.Machine
end

section
/-! SET of a parameter without a check (R173, R175, R178): the table of the parameters, and the store of a clamped
value, which brings nothing else with it. -/

namespace Sys2Proof.Machine

/-! ### The table of the parameters (R173) -/

/-- The numbers 0 and 15 to 255 name no parameter (R173). -/
theorem Param.ofNumber?_eq_none_iff {b : Byte} : Param.ofNumber? b = none ↔ b = 0 ∨ 15 ≤ b.toNat := by
  have zero : b = 0 ↔ b.toNat = 0 := BitVec.toNat_inj.symm
  rw [zero]
  unfold Param.ofNumber?
  split
  case h_15 => grind
  all_goals
    next number => simp [number]

/-- The numbers 11 to 14 are those of the parameters with a check of their own (R173, R175). -/
theorem plainParameter_iff {b : Byte} {q : Param} (h : Param.ofNumber? b = some q) :
    plainParameter b = true ↔ q.isAirtime = false ∧ q ≠ .handoffDepth := by
  have outside : plainParameter b = true ↔ ¬ (11 ≤ b.toNat ∧ b.toNat ≤ 14) := by
    simp [plainParameter, BitVec.le_def, imp_iff_not_or]
  rw [outside]
  unfold Param.ofNumber? at h
  split at h
  case h_15 => cases h
  all_goals
    next number =>
      cases h
      simp [number, Param.isAirtime]

/-! ### The store (R175) -/

theorem Params.write_read (p : Params) (q : Param) : p.write q (p.read q) = p := by cases q <;> rfl

/-- A parameter without a check is stored, and nothing else changes (R175). -/
theorem storeParam_of_unchecked {q : Param} (ha : q.isAirtime = false) (hd : q ≠ .handoffDepth) (v : Nat) (s : State) :
    storeParam q v s = .ok { s with params := s.params.write q v } := by
  by_cases hv : s.params.read q = v
  · subst hv
    rw [storeParam_of_same rfl, Params.write_read]
  · simp [storeParam, hv, ha, hd]

/-! ### The request (R171, R175, R178) -/

section
variable {number : Byte}

theorem doSet_of_unnamed (h : Param.ofNumber? number = none) (l : LinkId) (value : BitVec 16) (s : State) :
    doSet l number value s = .refuse s .badField := by simp only [doSet, h]

theorem doSet_of_named {q : Param} (h : Param.ofNumber? number = some q) (l : LinkId) (value : BitVec 16) (s : State) :
    doSet l number value s = setParam l number q value.toNat s := by simp only [doSet, h]

end

/-- Settles O30: the table row by row; then SET by what its number names and by the link it comes from. -/
theorem setStoresTheClampedValue : Obligations.SetStoresTheClampedValue := by
  refine ⟨fun p v => ?table, fun number => Param.ofNumber?_eq_none_iff, fun s l tag number value hready =>
    ⟨fun hnone => ?unnamed, fun q hq hl => ?foreign, fun q v hq hl hplain hv => ?stored⟩⟩
  case table => and_intros <;> rfl
  case unnamed => exact request_of_refuse hready tag (.set number value) 0x20 rfl (doSet_of_unnamed hnone l value s)
  case foreign =>
    have refused := (doSet_of_named hq l value s).trans (setParam_of_foreign hl number value.toNat)
    exact request_of_perform hready tag (.set number value) 0x20 rfl refused
  case stored =>
    obtain rfl : v = q.clamp value.toNat := hv
    obtain ⟨ha, hd⟩ := (plainParameter_iff hq).1 hplain
    have accepted := setParam_of_ok hl (storeParam_of_unchecked ha hd (q.clamp value.toNat) s) number
    exact request_of_perform hready tag (.set number value) 0x20 rfl ((doSet_of_named hq l value s).trans accepted)

end Sys2Proof.Machine
end

section
/-! Reset and its release (R178 to R180), and GET (R174). -/

namespace Sys2Proof.Machine

/-! ### Reset (R180) -/

@[simp] theorem holdReset_rec? (s : State) (i : RosterIx) : (holdReset s).rec? i = none := reset_rec? i

@[simp] theorem holdReset_ant (s : State) (a : AntennaId) : (holdReset s).ant a = Antenna.down := reset_ant a

@[simp] theorem holdReset_link (s : State) (l : LinkId) : (holdReset s).link l = Link.afterReset := reset_link l

@[simp] theorem Antenna.down_plan (g : GroupIx) : Antenna.down.plan.get g = Group.empty := by simp [Antenna.down]

@[simp] theorem Antenna.down_carriage (c : Fin 16) : Antenna.down.carriage.get c = 0 := by simp [Antenna.down]

/-- Settles O2: the roster, the antennas and the links are read by their reset values, the rest is written by reset. -/
theorem resetGivesEveryBlockItsResetValues : Obligations.ResetGivesEveryBlockItsResetValues := by
  intro s
  refine ⟨holdReset s, rfl, rfl, holdReset_rec? s, fun a => ?antenna, rfl, rfl, rfl, rfl, rfl, rfl, rfl,
    fun l => ?link, rfl, rfl, rfl⟩
  case antenna =>
    rw [holdReset_ant]
    exact ⟨rfl, rfl, fun g => by simp [Group.empty, Group.isEmpty], Antenna.down_carriage, rfl, rfl⟩
  case link =>
    rw [holdReset_link]
    exact ⟨rfl, rfl, rfl, rfl, rfl⟩

/-! ### Reset held and released (R143, R158, R178 to R180) -/

theorem whenRunning_of_held {s : State} (h : s.resetHeld = true) (f : State → State) : whenRunning s f = .next s := by
  rw [whenRunning, if_pos h]

/-- Every command but the two of reset has its effect only while reset is not held (log entry 5). -/
theorem exec_eq_whenRunning {c : Instr} (hreset : c ≠ .reset) (hrelease : ∀ x y, c ≠ .resetRelease x y) :
    ∃ f, ∀ s, exec c s = whenRunning s f := by
  cases c
  case reset => exact absurd rfl hreset
  case resetRelease x y => exact absurd rfl (hrelease x y)
  all_goals exact ⟨_, fun _ => rfl⟩

theorem exec_resetRelease_of_held {s : State} (h : s.resetHeld = true) (cfgsel ratesel : BitVec 2) :
    exec (.resetRelease cfgsel ratesel) s = .next (releaseReset cfgsel ratesel s) := by
  rw [exec, execResetRelease, if_pos h]

theorem exec_resetRelease_of_running {s : State} (h : s.resetHeld = false) (cfgsel ratesel : BitVec 2) :
    exec (.resetRelease cfgsel ratesel) s = .next s := by
  rw [exec, execResetRelease, if_neg (Bool.eq_false_iff.1 h)]

/-- A CFGSEL1:0 code selects the link of its number (R178). -/
theorem linkOfCode_eq {cfgsel : BitVec 2} {k : LinkId} (h : k.val = cfgsel.toNat) : linkOfCode cfgsel = k :=
  Fin.ext h.symm

/-- Settles O3: every command but the two of reset runs only while reset is not held, and the release only while it
is. -/
theorem heldResetAndItsRelease : Obligations.HeldResetAndItsRelease := by
  refine ⟨fun c s held hreset hrelease => ?other, fun s cfgsel ratesel k held hk => ?release,
    fun s cfgsel ratesel running => exec_resetRelease_of_running running cfgsel ratesel⟩
  case other =>
    obtain ⟨f, hf⟩ := exec_eq_whenRunning hreset hrelease
    rw [hf, whenRunning_of_held held]
  case release => rw [exec_resetRelease_of_held held, releaseReset, linkOfCode_eq hk]

/-! ### GET (R171, R174) -/

section
variable {number : Byte}

theorem doGet_of_unnamed (h : Param.ofNumber? number = none) (s : State) : doGet number s = .refuse s .badField := by
  simp only [doGet, h]

theorem doGet_of_named {q : Param} (h : Param.ofNumber? number = some q) (s : State) :
    doGet number s = { state := s, status := .ok, fields := valueFields number (s.params.read q) } := by
  simp only [doGet, h]

end

/-- Settles O33: the table of the parameters, then GET by whether its number names one. -/
theorem getReadsTheStore : Obligations.GetReadsTheStore := by
  intro s l tag number hready
  refine ⟨Param.ofNumber?_eq_none_iff, fun hnone => ?unnamed, fun q hq => ?named⟩
  case unnamed => exact request_of_refuse hready tag (.get number) 0x21 rfl (doGet_of_unnamed hnone s)
  case named => exact request_of_perform hready tag (.get number) 0x21 rfl (doGet_of_named hq s)

end Sys2Proof.Machine
end

section
/-! The step by its queue (log entry 1): one equation per shape of the queue. -/

namespace Sys2Proof.Machine

theorem step_of_pending_cons {s : State} {c : Instr} {rest : List Instr} (h : s.pending = c :: rest) :
    step s = exec c { s with pending := rest } := by
  simp only [step, h]

theorem step_of_pending_nil {s : State} (h : s.pending = []) : step s = .next s := by
  simp only [step, h]

/-- Settles O1: the two shapes of the queue. -/
theorem stepRunsTheFrontCommand : Obligations.StepRunsTheFrontCommand :=
  ⟨fun _ _ _ front => step_of_pending_cons front, fun _ idle => step_of_pending_nil idle⟩

end Sys2Proof.Machine
end
